-- ==== Sys2Proof/Word.lean ====
section
/-! DEFINITION. The plainest data of the model: a byte of a frame, and `Tab n α`, a fixed number of like things
(the rows of a table, the zones, the actuators, the meters), numbered from 0 inside and from 1 where the manual
numbers from 1. -/

namespace Sys2Proof

/-- One byte of a frame or of the store. -/
abbrev Byte := BitVec 8

/-- Exactly `n` things of one kind, as plain data that carries its own length. -/
structure Tab (n : Nat) (α : Type) where
  data : List α
  len  : data.length = n
  deriving DecidableEq, Repr

namespace Tab
variable {n : Nat} {α β : Type}

def get (t : Tab n α) (i : Fin n) : α := t.data.get (i.cast t.len.symm)

def set (t : Tab n α) (i : Fin n) (a : α) : Tab n α := ⟨t.data.set i a, by simp [t.len]⟩

def modify (t : Tab n α) (i : Fin n) (f : α → α) : Tab n α := t.set i (f (t.get i))

def ofFn (f : Fin n → α) : Tab n α := ⟨(List.finRange n).map f, by simp⟩

def replicate (n : Nat) (a : α) : Tab n α := ⟨List.replicate n a, by simp⟩

def map (t : Tab n α) (f : α → β) : Tab n β := ⟨t.data.map f, by simp [t.len]⟩

/-- Every thing replaced by what `f` makes of its index and itself. -/
def mapIdx (t : Tab n α) (f : Fin n → α → β) : Tab n β := ofFn fun i => f i (t.get i)

/-- Field, row or meter number `k`, counted from 1 as the manual counts; `d` where there is none. -/
def nth (t : Tab n α) (k : Nat) (d : α) : α := t.data.getD (k - 1) d

/-- Writes number `k`, counted from 1; a number beyond the last writes nothing. -/
def setNth (t : Tab n α) (k : Nat) (a : α) : Tab n α := ⟨t.data.set (k - 1) a, by simp [t.len]⟩

/-- Numeric field `k`, counted from 1. -/
def num (t : Tab n Int) (k : Nat) : Int := t.nth k 0

end Tab

end Sys2Proof
end

