-- ==== Sys2Proof/Config.lean ====
section
/-! DEFINITION. What is fixed for every Nethmar 4120, and the one free value. Every range and default of the tables stands
in Machine/Tables.lean. -/

namespace Sys2Proof.Config

/-- The part's own plant address (08, addresses: "Its plant address is fixed at 1"). -/
abbrev plantAddress : Byte := 1

/-- The room broadcast address (08, addresses). -/
abbrev broadcastAddress : Byte := 127

/-- The largest payload (R153: the length byte is within 0..48). -/
abbrev maxPayload : Nat := 48

/-- Where meters and the uptime counter stop (R198, R199), and the last pass number before the wrap (R42). -/
abbrev max32 : Nat := 4294967295

/-- Bytes of the store (R161). -/
abbrev storeSize : Nat := 4096

/-- FREE VALUE (log 11): the write of a save's meter region has begun by a count made at this clock with meters 0..7 at
these values. R192 says that the region takes the meters when its write begins; no command of the table marks that moment,
so which of the counts made during a save come before it is left open. -/
opaque regionBegun (clock : Nat) (meters : List Nat) : Bool

end Sys2Proof.Config
end

