-- ==== Sys2Proof/Syntax.lean ====
section
/-! DEFINITION. The commands of the part: one constructor per row of spec/opcode_table.json, with the operands the
row's rule reads. A frame's row carries the header bytes its rule reads and the payload bytes; the CRC has been
checked for every row but the two CRC drops, which carry the raw bytes. -/

namespace Sys2Proof

/-- The five lockout causes (R85, R106). -/
inductive LockoutCause where
  | outdoorFault | condensate | outdoorLost | indoorLost | coilFreeze
  deriving DecidableEq, Repr

/-- A frame of either bus without its length and CRC bytes, which are formed from the rest (R153, R154). -/
structure Frame where
  dst     : Byte
  src     : Byte
  kind    : Byte
  seq     : Byte
  payload : List Byte
  deriving DecidableEq, Repr

/-- The commands, in the order of spec/opcode_table.json. -/
inductive Instr where
  /-- POWER_ON (R194): `pagesWritten` pages of a save or meter write had been completed when power was lost (R192);
  `storeAnswers`: the store answers the loader (R189); `storeWp`: the level of the STORE_WP pin. -/
  | powerOn (pagesWritten : Nat) (storeAnswers storeWp : Bool)
  /-- LOADING_END (R195). -/
  | loadingEnd
  /-- ROOM_CRC_DROP (R153): the bytes of the frame as received. -/
  | roomCrcDrop (bytes : List Byte)
  /-- ROOM_FRAME_IGNORED (R156). -/
  | roomFrameIgnored (frame : Frame)
  /-- ZONE_REPORT (R15), to the part's own room address. -/
  | zoneReport (src : Byte) (payload : List Byte)
  /-- SET_ZONE (R175), to the part's own room address, as every request below. -/
  | setZone (src seq : Byte) (payload : List Byte)
  /-- READ_ZONE (R176). -/
  | readZone (src seq : Byte) (payload : List Byte)
  /-- READ_STATUS (R177). -/
  | readStatus (src seq : Byte) (payload : List Byte)
  /-- READ_FIELD (R178). -/
  | readField (src seq : Byte) (payload : List Byte)
  /-- WRITE_FIELD (R179). -/
  | writeField (src seq : Byte) (payload : List Byte)
  /-- READ_METER (R181). -/
  | readMeter (src seq : Byte) (payload : List Byte)
  /-- READ_FAULTS (R181). -/
  | readFaults (src seq : Byte) (payload : List Byte)
  /-- CLEAR_LOCKOUT (R182). -/
  | clearLockout (src seq : Byte) (payload : List Byte)
  /-- SAVE_CONFIG (R183). -/
  | saveConfig (src seq : Byte) (payload : List Byte)
  /-- RESTART (R184). -/
  | restart (src seq : Byte) (payload : List Byte)
  /-- MALFORMED_REQUEST (R173): a frame to the part's own address that is no request, or one with a bad payload. -/
  | malformedRequest (src kind seq : Byte) (payload : List Byte)
  /-- PROXY_FRAME (R163). -/
  | proxyFrame (frame : Frame)
  /-- PASS_TIMER_EXPIRY (R37). -/
  | passTimerExpiry
  /-- CHANGEOVER_LOCKOUT_EXPIRY (R56). -/
  | changeoverLockoutExpiry
  /-- STALE_TIMER_EXPIRY (R17) of zone 1..12. -/
  | staleTimerExpiry (zone : Nat)
  /-- OVERRIDE_EXPIRY (R28) of zone 1..12. -/
  | overrideExpiry (zone : Nat)
  /-- QUIET_ENTRY_TIMER_EXPIRY (R33). -/
  | quietEntryTimerExpiry
  /-- UPTIME_MINUTE (R199). -/
  | uptimeMinute
  /-- MIN_RUN_EXPIRY (R96). -/
  | minRunExpiry
  /-- MIN_OFF_EXPIRY (R93). -/
  | minOffExpiry
  /-- EQUALIZE_EXPIRY (R99). -/
  | equalizeExpiry
  /-- OVERRUN_EXPIRY (R98). -/
  | overrunExpiry
  /-- COLD_DRAFT_HOLD_EXPIRY (R101). -/
  | coldDraftHoldExpiry
  /-- COIL_FREEZE_TIMER_EXPIRY (R103). -/
  | coilFreezeTimerExpiry
  /-- LOCKOUT_TIME_EXPIRY (R106) of one cause's lockout-time timer. -/
  | lockoutTimeExpiry (cause : LockoutCause)
  /-- DEFROST_PAUSE_EXPIRY (R115). -/
  | defrostPauseExpiry
  /-- DEFROST_MAX_EXPIRY (R120). -/
  | defrostMaxExpiry
  /-- SLOT_GRANT (R144). -/
  | slotGrant
  /-- REPLY_WINDOW_EXPIRY (R135). -/
  | replyWindowExpiry
  /-- PLANT_CRC_DROP (R153): the bytes of the frame as received. -/
  | plantCrcDrop (bytes : List Byte)
  /-- PLANT_FRAME_DISCARD (R135). -/
  | plantFrameDiscard (frame : Frame)
  /-- ACCEPT (R136): a plant frame of kind ACCEPT. -/
  | accept (dst src seq : Byte) (payload : List Byte)
  /-- REFUSE (R137). -/
  | refuse (dst src seq : Byte) (payload : List Byte)
  /-- FORWARDED_REPLY (R168): a plant frame of any kind that answers a forwarded frame. -/
  | forwardedReply (frame : Frame)
  /-- INDOOR_REPLY (R148). -/
  | indoorReply (dst src seq : Byte) (payload : List Byte)
  /-- OUTDOOR_REPLY (R148). -/
  | outdoorReply (dst src seq : Byte) (payload : List Byte)
  /-- DAMPER_REPLY (R139). -/
  | damperReply (dst src seq : Byte) (payload : List Byte)
  /-- TRAVEL_TIMEOUT (R139) of the damper of zone 1..12. -/
  | travelTimeout (zone : Nat)
  /-- RAMP_TIMEOUT (R140). -/
  | rampTimeout
  /-- VALVE_TIMEOUT (R141). -/
  | valveTimeout
  /-- POLL_ROUND_DUE (R146). -/
  | pollRoundDue
  /-- DISCARD_TIMER_EXPIRY (R169) of held-reply slot 0..3. -/
  | discardTimerExpiry (slot : Nat)
  /-- PERIOD_TIMER_EXPIRY (R186). -/
  | periodTimerExpiry
  /-- HOLDOFF_TIMER_EXPIRY (R187). -/
  | holdoffTimerExpiry
  /-- SAVE_COMPLETE (R192). -/
  | saveComplete
  /-- METER_WRITE_COMPLETE (R193). -/
  | meterWriteComplete
  /-- STORE_PAGE_FAIL (R192): the page that failed, counted from 0 in the order the save writes them (94 is the meter
  region's page); a meter write has the one page 0. -/
  | storePageFail (page : Nat)
  /-- OVERRIDE_MINUTE_COUNT (R28) of zone 1..12. -/
  | overrideMinuteCount (zone : Nat)
  /-- READING_AGE_COUNT (R16). -/
  | readingAgeCount
  deriving DecidableEq, Repr

end Sys2Proof
end

