-- ==== Sys2Proof/Decode.lean ====
section
/-! DEFINITION. The command a word of the opcode table spells. No row of spec/opcode_table.json has bits, so no word spells
a command; the frames of both buses are read from their bytes in Machine/Delivery.lean. -/

namespace Sys2Proof

/-- The command a word of `nbits` bits spells by the table: none. -/
def decodeTableWord (_nbits _w : Nat) : Option Instr := none

end Sys2Proof
end

