-- ==== Sys2Proof/Machine/Frames.lean ====
section
/-! DEFINITION. The frame of both buses as bytes (R153), its CRC (R154), the byte order of multi-byte fields (R155),
the kind codes and their class (R156), and the status codes (R159). -/

namespace Sys2Proof.Machine

/-! Multi-byte fields, high byte first (R155). -/

/-- The byte that carries a value of one byte. -/
def byteOf (v : Int) : Byte := BitVec.ofInt 8 v

/-- Two bytes, high byte first; a negative value in two's complement. -/
def bytes2 (v : Int) : List Byte := [byteOf (v / 256), byteOf v]

/-- Three bytes, high byte first. -/
def bytes3 (v : Int) : List Byte := [byteOf (v / 65536), byteOf (v / 256), byteOf v]

/-- Four bytes, high byte first. -/
def bytes4 (v : Int) : List Byte := [byteOf (v / 16777216), byteOf (v / 65536), byteOf (v / 256), byteOf v]

/-- An unsigned field: its bytes, high byte first. -/
def unsigned (bs : List Byte) : Int := bs.foldl (fun a b => a * 256 + (b.toNat : Int)) 0

/-- A signed field: two's complement over its bytes, high byte first. -/
def signed (bs : List Byte) : Int :=
  let u := unsigned bs
  let m : Int := 2 ^ (8 * bs.length)
  if 2 * u ≥ m then u - m else u

/-! The CRC (R154). -/

/-- One shift of the CRC register with the polynomial x^16 + x^12 + x^5 + 1. -/
def crcShift (r : BitVec 16) : BitVec 16 := if r.msb then (r <<< 1) ^^^ 0x1021#16 else r <<< 1

/-- One byte taken into the register, most significant bit first. -/
def crcByte (r : BitVec 16) (b : Byte) : BitVec 16 :=
  (List.range 8).foldl (fun r _ => crcShift r) (r ^^^ (b.setWidth 16 <<< 8))

/-- The CRC of a run of bytes; the register starts at all ones (R154). -/
def crc (bs : List Byte) : BitVec 16 := bs.foldl crcByte 0xFFFF#16

/-! The frame (R153). -/

/-- Bytes 0 to 4 + length. -/
def Frame.body (f : Frame) : List Byte :=
  [f.dst, f.src, f.kind, f.seq, BitVec.ofNat 8 f.payload.length] ++ f.payload

/-- The frame as it stands on the bus, its CRC high byte first (R153, R154). -/
def Frame.bytes (f : Frame) : List Byte :=
  Frame.body f ++ [((crc (Frame.body f)) >>> 8).setWidth 8, (crc (Frame.body f)).setWidth 8]

/-- The frame a receiver accepts from a run of bytes: the byte count equals 7 plus the length byte, the length byte is
within 0..48 and the CRC checks; `none` for every other run (R153). -/
def Frame.parse (bs : List Byte) : Option Frame :=
  match bs with
  | dst :: src :: kind :: seq :: len :: rest =>
    let body := dst :: src :: kind :: seq :: len :: rest.take len.toNat
    if rest.length = len.toNat + 2 ∧ len.toNat ≤ Config.maxPayload
        ∧ rest.drop len.toNat = [((crc body) >>> 8).setWidth 8, (crc body).setWidth 8] then
      some ⟨dst, src, kind, seq, rest.take len.toNat⟩
    else none
  | _ => none

/-! The kind codes of R156. -/

abbrev kindZoneReport : Byte := 0x01
abbrev kindSetZone : Byte := 0x02
abbrev kindReadZone : Byte := 0x03
abbrev kindReadStatus : Byte := 0x04
abbrev kindReadField : Byte := 0x05
abbrev kindWriteField : Byte := 0x06
abbrev kindReadMeter : Byte := 0x07
abbrev kindReadFaults : Byte := 0x08
abbrev kindClearLockout : Byte := 0x09
abbrev kindSaveConfig : Byte := 0x0A
abbrev kindRestart : Byte := 0x0B
abbrev kindReply : Byte := 0x0E
abbrev kindBroadcast : Byte := 0x0F
abbrev kindPoll : Byte := 0x20
abbrev kindIndoorReply : Byte := 0x21
abbrev kindOutdoorReply : Byte := 0x22
abbrev kindDamperReply : Byte := 0x23
abbrev kindDamperSet : Byte := 0x30
abbrev kindFanSet : Byte := 0x31
abbrev kindCapacitySet : Byte := 0x32
abbrev kindValveSet : Byte := 0x33
abbrev kindDefrostSet : Byte := 0x34
abbrev kindAccept : Byte := 0x3E
abbrev kindRefuse : Byte := 0x3F

/-- The class of a kind: POLL alone is READ, every other code COMMAND (R156). -/
def isRead (kind : Byte) : Bool := kind = kindPoll

/-- The status codes of a REPLY (R159). -/
inductive Status where
  | ok | clamped | notPermitted | noSuchZone | noSuchTable | noSuchField | tableRange | duplicate | noSuchMeter | busy
  | storeProtected | notLocked | malformed | deferred | noAnswer
  deriving DecidableEq, Repr

/-- The code at offset 0 of the REPLY (R159). -/
def Status.code : Status → Byte
  | .ok => 0 | .clamped => 1 | .notPermitted => 2 | .noSuchZone => 3 | .noSuchTable => 4 | .noSuchField => 5
  | .tableRange => 6 | .duplicate => 7 | .noSuchMeter => 8 | .busy => 9 | .storeProtected => 10 | .notLocked => 11
  | .malformed => 12 | .deferred => 13 | .noAnswer => 14

end Sys2Proof.Machine
end

