-- ==== Sys2Proof/Machine/Tables.lean ====
section
/-! DEFINITION. The six tables (R2, R72, R162, R171, R185, R191): the range and default of every field, the tables as
data, their rows and fields by number, and the ONE operation that applies a written value, whether it comes from a
WRITE_FIELD or a store record (R2, R3, R72, R179, R190). Fields are integers; an enumerated field holds its code. -/

namespace Sys2Proof.Machine

/-- Limits `x` to `lo..hi` (R1). -/
def clamp (lo hi x : Int) : Int := max lo (min hi x)

/-- The range and the default of one table field. -/
structure FieldSpec where
  lo : Int
  hi : Int
  dflt : Int
  deriving DecidableEq, Repr

/-- The value of a field, clamped to the nearest end of its range (R2, R162, R171, R185, R191). -/
def FieldSpec.fit (f : FieldSpec) (v : Int) : Int := clamp f.lo f.hi v

/-- A row of table 1 (R2). -/
abbrev ZoneRow := Tab 14 Int
/-- A row of table 3 (R162). -/
abbrev FilterRow := Tab 6 Int
/-- A row of table 4 (R171). -/
abbrev RoleRow := Tab 4 Int
/-- Table 5 (R191). -/
abbrev PlantTable := Tab 56 Int
/-- Table 6 (R185). -/
abbrev ReportTable := Tab 5 Int

/-- The six tables held in working memory. -/
structure Tables where
  zone   : Tab 12 ZoneRow
  relief : Tab 12 Int
  filter : Tab 32 FilterRow
  role   : Tab 16 RoleRow
  plant  : PlantTable
  report : ReportTable
  deriving DecidableEq, Repr

/-- Table 1 (R2); the default channel is the row number less 1. -/
def zoneSpecs (row : Nat) : List FieldSpec :=
  [⟨0, 1, 0⟩, ⟨0, 1, 1⟩, ⟨1, 8, 4⟩, ⟨0, 15, (row : Int) - 1⟩, ⟨0, 1, 0⟩,
   ⟨20, 100, 50⟩, ⟨0, 30, 0⟩, ⟨50, 300, 200⟩, ⟨150, 350, 245⟩, ⟨0, 80, 30⟩,
   ⟨400, 700, 550⟩, ⟨30, 240, 120⟩, ⟨0, 63, 0⟩, ⟨0, 63, 0⟩]

/-- Table 2 (R72). -/
def reliefSpecs : List FieldSpec := [⟨0, 12, 0⟩]

/-- Table 3 (R162). -/
def filterSpecs : List FieldSpec := [⟨0, 63, 0⟩, ⟨0, 63, 0⟩, ⟨64, 126, 64⟩, ⟨64, 126, 64⟩, ⟨0, 2, 0⟩, ⟨0, 3, 3⟩]

/-- Table 4 (R171): row 1 is the commissioning address 63 with role SERVICE. -/
def roleSpecs (row : Nat) : List FieldSpec :=
  [⟨0, 63, if row = 1 then 63 else 0⟩, ⟨0, 2, if row = 1 then 2 else 0⟩, ⟨0, 12, 0⟩, ⟨0, 1, 0⟩]

/-- Table 5 (R191). -/
def plantSpecs : List FieldSpec :=
  [⟨5, 50, 20⟩, ⟨0, 20, 2⟩, ⟨3, 20, 5⟩, ⟨20, 100, 50⟩, ⟨50, 200, 100⟩, ⟨0, 20000, 2000⟩, ⟨5, 60, 10⟩,
   ⟨10, 120, 40⟩, ⟨150, 300, 240⟩, ⟨0, 180, 100⟩, ⟨200, 500, 300⟩, ⟨100, 400, 150⟩, ⟨20, 300, 100⟩, ⟨200, 600, 350⟩,
   ⟨500, 1000, 800⟩, ⟨25, 60, 35⟩, ⟨25, 70, 45⟩, ⟨20, 60, 30⟩, ⟨0, 1, 0⟩, ⟨0, 30, 15⟩, ⟨20, 80, 40⟩,
   ⟨5, 50, 15⟩, ⟨60, 600, 180⟩, ⟨120, 900, 300⟩, ⟨60, 300, 180⟩, ⟨0, 180, 60⟩, ⟨200, 400, 280⟩, ⟨60, 300, 180⟩,
   ⟨-100, 20, -20⟩, ⟨30, 120, 45⟩, ⟨5, 30, 10⟩, ⟨50, 200, 120⟩, ⟨5, 15, 10⟩, ⟨20, 60, 30⟩, ⟨120, 900, 300⟩,
   ⟨30, 180, 90⟩, ⟨60, 240, 120⟩, ⟨0, 7, 3⟩, ⟨60, 600, 180⟩, ⟨15, 120, 30⟩, ⟨60, 300, 120⟩, ⟨5, 60, 15⟩,
   ⟨2, 62, 16⟩, ⟨1, 16, 12⟩, ⟨2, 63, 2⟩, ⟨2, 63, 3⟩, ⟨450, 700, 600⟩, ⟨0, 50, 10⟩, ⟨0, 30, 10⟩,
   ⟨30, 100, 60⟩, ⟨2, 10, 5⟩, ⟨10, 60, 30⟩, ⟨600, 800, 700⟩, ⟨50, 120, 70⟩, ⟨280, 380, 320⟩, ⟨100, 250, 180⟩]

/-- Table 6 (R185). -/
def reportSpecs : List FieldSpec := [⟨0, 1, 0⟩, ⟨2, 60, 10⟩, ⟨1, 10, 2⟩, ⟨0, 3, 3⟩, ⟨1, 63, 1⟩]

/-- The fields of one row of table `t` (R178, R190). -/
def rowSpecs (t row : Nat) : List FieldSpec :=
  match t with
  | 1 => zoneSpecs row
  | 2 => reliefSpecs
  | 3 => filterSpecs
  | 4 => roleSpecs row
  | 5 => plantSpecs
  | 6 => reportSpecs
  | _ => []

/-- Rows of table `t` (R178; 10.2). -/
def tableRows (t : Nat) : Nat :=
  match t with
  | 1 => 12 | 2 => 12 | 3 => 32 | 4 => 16 | 5 => 1 | 6 => 1 | _ => 0

/-- Fields of a row of table `t` (R178; 10.2). -/
def tableFields (t : Nat) : Nat :=
  match t with
  | 1 => 14 | 2 => 1 | 3 => 6 | 4 => 4 | 5 => 56 | 6 => 5 | _ => 0

/-- The range of field `f` of row `row` of table `t`. -/
def fieldSpec (t row f : Nat) : FieldSpec := (rowSpecs t row).getD (f - 1) ⟨0, 0, 0⟩

/-- The defaults of a row. -/
def rowDefault {n : Nat} (specs : List FieldSpec) : Tab n Int := Tab.ofFn fun i => (specs.getD i ⟨0, 0, 0⟩).dflt

/-- Every table at its defaults (R2, R72, R162, R171, R185, R191). -/
def Tables.default : Tables where
  zone := Tab.ofFn fun i => rowDefault (zoneSpecs (i + 1))
  relief := Tab.replicate 12 0
  filter := Tab.replicate 32 (rowDefault filterSpecs)
  role := Tab.ofFn fun i => rowDefault (roleSpecs (i + 1))
  plant := rowDefault plantSpecs
  report := rowDefault reportSpecs

/-! The fields of table 1 by name (R2). -/


def ZoneRow.enabled (r : ZoneRow) : Bool := r.num 1 ≠ 0
def ZoneRow.voting (r : ZoneRow) : Bool := r.num 2 ≠ 0
def ZoneRow.weight (r : ZoneRow) : Int := r.num 3
def ZoneRow.channel (r : ZoneRow) : Int := r.num 4
def ZoneRow.reliefEligible (r : ZoneRow) : Bool := r.num 5 ≠ 0
def ZoneRow.reliefPosition (r : ZoneRow) : Int := r.num 6
def ZoneRow.pmin (r : ZoneRow) : Int := r.num 7
def ZoneRow.sh (r : ZoneRow) : Int := r.num 8
def ZoneRow.sc (r : ZoneRow) : Int := r.num 9
def ZoneRow.setback (r : ZoneRow) : Int := r.num 10
def ZoneRow.rhs (r : ZoneRow) : Int := r.num 11
def ZoneRow.overrideTime (r : ZoneRow) : Int := r.num 12
def ZoneRow.consoleAddress (r : ZoneRow) : Int := r.num 13
def ZoneRow.sensorAddress (r : ZoneRow) : Int := r.num 14

/-! The plant parameters by name (R191). -/

/-- Parameter 1: PB. -/
def PlantTable.pb (p : PlantTable) : Int := p.num 1
/-- Parameter 2: Kr. -/
def PlantTable.kr (p : PlantTable) : Int := p.num 2
/-- Parameter 3: Hon. -/
def PlantTable.hon (p : PlantTable) : Int := p.num 3
/-- Parameter 4: RHon. -/
def PlantTable.rhOn (p : PlantTable) : Int := p.num 4
/-- Parameter 5: RHband. -/
def PlantTable.rhBand (p : PlantTable) : Int := p.num 5
/-- Parameter 6: M, changeover margin. -/
def PlantTable.margin (p : PlantTable) : Int := p.num 6
/-- Parameter 7: changeover lockout (minutes). -/
def PlantTable.changeoverLockout (p : PlantTable) : Int := p.num 7
/-- Parameter 8: starvation limit (minutes). -/
def PlantTable.starvationLimit (p : PlantTable) : Int := p.num 8
/-- Parameter 9: Theat_max. -/
def PlantTable.theatMax (p : PlantTable) : Int := p.num 9
/-- Parameter 10: Tcool_min. -/
def PlantTable.tcoolMin (p : PlantTable) : Int := p.num 10
/-- Parameter 11: Qmin. -/
def PlantTable.qmin (p : PlantTable) : Int := p.num 11
/-- Parameter 12: Qstop. -/
def PlantTable.qstop (p : PlantTable) : Int := p.num 12
/-- Parameter 13: Qslew. -/
def PlantTable.qslew (p : PlantTable) : Int := p.num 13
/-- Parameter 14: Qdry. -/
def PlantTable.qdry (p : PlantTable) : Int := p.num 14
/-- Parameter 15: Qdef. -/
def PlantTable.qdef (p : PlantTable) : Int := p.num 15
/-- Parameter 16: Fmin. -/
def PlantTable.fmin (p : PlantTable) : Int := p.num 16
/-- Parameter 17: Fdry. -/
def PlantTable.fdry (p : PlantTable) : Int := p.num 17
/-- Parameter 18: Fcirc. -/
def PlantTable.fcirc (p : PlantTable) : Int := p.num 18
/-- Parameter 19: fan policy, AUTO 0, CONTINUOUS 1. -/
def PlantTable.fanPolicy (p : PlantTable) : Int := p.num 19
/-- Parameter 20: Lmax. -/
def PlantTable.lmax (p : PlantTable) : Int := p.num 20
/-- Parameter 21: Amin_pct. -/
def PlantTable.aminPct (p : PlantTable) : Int := p.num 21
/-- Parameter 22: Rm, relief margin. -/
def PlantTable.reliefMargin (p : PlantTable) : Int := p.num 22
/-- Parameter 23: min run. -/
def PlantTable.minRun (p : PlantTable) : Int := p.num 23
/-- Parameter 24: min off. -/
def PlantTable.minOff (p : PlantTable) : Int := p.num 24
/-- Parameter 25: equalize. -/
def PlantTable.equalize (p : PlantTable) : Int := p.num 25
/-- Parameter 26: overrun. -/
def PlantTable.overrun (p : PlantTable) : Int := p.num 26
/-- Parameter 27: cold-draft coil. -/
def PlantTable.coldDraftCoil (p : PlantTable) : Int := p.num 27
/-- Parameter 28: cold-draft hold. -/
def PlantTable.coldDraftHold (p : PlantTable) : Int := p.num 28
/-- Parameter 29: frost coil. -/
def PlantTable.frostCoil (p : PlantTable) : Int := p.num 29
/-- Parameter 30: defrost interval (minutes). -/
def PlantTable.defrostInterval (p : PlantTable) : Int := p.num 30
/-- Parameter 31: defrost minimum frost time (minutes). -/
def PlantTable.defrostMinimum (p : PlantTable) : Int := p.num 31
/-- Parameter 32: defrost end coil. -/
def PlantTable.defrostEndCoil (p : PlantTable) : Int := p.num 32
/-- Parameter 33: defrost max (minutes). -/
def PlantTable.defrostMax (p : PlantTable) : Int := p.num 33
/-- Parameter 34: defrost pause. -/
def PlantTable.defrostPause (p : PlantTable) : Int := p.num 34
/-- Parameter 35: lockout time. -/
def PlantTable.lockoutTime (p : PlantTable) : Int := p.num 35
/-- Parameter 36: ramp timeout. -/
def PlantTable.rampTimeout (p : PlantTable) : Int := p.num 36
/-- Parameter 37: travel timeout. -/
def PlantTable.travelTimeout (p : PlantTable) : Int := p.num 37
/-- Parameter 38: retry limit. -/
def PlantTable.retryLimit (p : PlantTable) : Int := p.num 38
/-- Parameter 39: sensor stale time. -/
def PlantTable.staleTime (p : PlantTable) : Int := p.num 39
/-- Parameter 40: pass period. -/
def PlantTable.passPeriod (p : PlantTable) : Int := p.num 40
/-- Parameter 41: quiet pass period. -/
def PlantTable.quietPassPeriod (p : PlantTable) : Int := p.num 41
/-- Parameter 42: quiet entry time (minutes). -/
def PlantTable.quietEntryTime (p : PlantTable) : Int := p.num 42
/-- Parameter 43: damper base. -/
def PlantTable.damperBase (p : PlantTable) : Int := p.num 43
/-- Parameter 44: damper field length. -/
def PlantTable.damperFieldLength (p : PlantTable) : Int := p.num 44
/-- Parameter 45: indoor address. -/
def PlantTable.indoorAddress (p : PlantTable) : Int := p.num 45
/-- Parameter 46: outdoor address. -/
def PlantTable.outdoorAddress (p : PlantTable) : Int := p.num 46
/-- Parameter 47: supply high limit. -/
def PlantTable.supplyHighLimit (p : PlantTable) : Int := p.num 47
/-- Parameter 48: coil freeze limit. -/
def PlantTable.coilFreezeLimit (p : PlantTable) : Int := p.num 48
/-- Parameter 49: dry exclusion margin. -/
def PlantTable.dryExclusionMargin (p : PlantTable) : Int := p.num 49
/-- Parameter 50: Pdry. -/
def PlantTable.pdry (p : PlantTable) : Int := p.num 50
/-- Parameter 51: poll interval. -/
def PlantTable.pollInterval (p : PlantTable) : Int := p.num 51
/-- Parameter 52: quiet poll interval. -/
def PlantTable.quietPollInterval (p : PlantTable) : Int := p.num 52
/-- Parameter 53: away dry setpoint. -/
def PlantTable.awayDry (p : PlantTable) : Int := p.num 53
/-- Parameter 54: frost setpoint. -/
def PlantTable.frostSetpoint (p : PlantTable) : Int := p.num 54
/-- Parameter 55: away cool setpoint. -/
def PlantTable.awayCool (p : PlantTable) : Int := p.num 55
/-- Parameter 56: tie temperature. -/
def PlantTable.tieTemperature (p : PlantTable) : Int := p.num 56

/-- Fan policy CONTINUOUS (parameter 19). -/
def PlantTable.continuousFan (p : PlantTable) : Bool := p.fanPolicy = 1

/-! The reporting table by name (R185). -/

/-- Field 1: ON_CHANGE, quiet reporting. -/
def ReportTable.onChange (r : ReportTable) : Bool := r.num 1 = 1
/-- Field 2: the broadcast period (s). -/
def ReportTable.period (r : ReportTable) : Int := r.num 2
/-- Field 3: the holdoff, also the discard time (s). -/
def ReportTable.holdoff (r : ReportTable) : Int := r.num 3
/-- Field 4: the default filter action's code. -/
def ReportTable.defaultAction (r : ReportTable) : Int := r.num 4
/-- Field 5: the part's own room address. -/
def ReportTable.ownAddress (r : ReportTable) : Int := r.num 5

/-! Reading and writing a field by its numbers. -/

/-- Row `row` of table 1, counted from 1. -/
def Tables.zoneRow (T : Tables) (row : Nat) : ZoneRow := T.zone.nth row (Tab.replicate 14 0)

/-- Field `f` of row `row` of table `t`, all counted from 1 (R178). -/
def Tables.read (T : Tables) (t row f : Nat) : Int :=
  match t with
  | 1 => (T.zoneRow row).num f
  | 2 => T.relief.num row
  | 3 => (T.filter.nth row (Tab.replicate 6 0)).num f
  | 4 => (T.role.nth row (Tab.replicate 4 0)).num f
  | 5 => T.plant.num f
  | 6 => T.report.num f
  | _ => 0

/-- Stores a value as it is (step 4 of R179, step 5 of R190). -/
def Tables.store (T : Tables) (t row f : Nat) (v : Int) : Tables :=
  match t with
  | 1 => { T with zone := T.zone.setNth row ((T.zoneRow row).setNth f v) }
  | 2 => { T with relief := T.relief.setNth row v }
  | 3 => { T with filter := T.filter.setNth row ((T.filter.nth row (Tab.replicate 6 0)).setNth f v) }
  | 4 => { T with role := T.role.setNth row ((T.role.nth row (Tab.replicate 4 0)).setNth f v) }
  | 5 => { T with plant := T.plant.setNth f v }
  | 6 => { T with report := T.report.setNth f v }
  | _ => T

/-- A change of the heat setpoint (R3): the row after it, and whether the value was clamped or the cool setpoint moved. -/
def ZoneRow.writeHeat (r : ZoneRow) (v : Int) : ZoneRow × Bool :=
  let w := clamp 50 300 v
  if r.sc - w ≥ 20 then (r.setNth 8 w, decide (w ≠ v))
  else
    let sc := clamp 150 350 (w + 20)
    ((r.setNth 8 (min w (sc - 20))).setNth 9 sc, true)

/-- A change of the cool setpoint (R3). -/
def ZoneRow.writeCool (r : ZoneRow) (v : Int) : ZoneRow × Bool :=
  let w := clamp 150 350 v
  if w - r.sh ≥ 20 then (r.setNth 9 w, decide (w ≠ v))
  else
    let sh := clamp 50 300 (w - 20)
    ((r.setNth 9 (max w (sh + 20))).setNth 8 sh, true)

/-- A change of the dry setpoint, clamped (R2, R4). -/
def ZoneRow.writeDry (r : ZoneRow) (v : Int) : ZoneRow × Bool :=
  let w := clamp 400 700 v
  (r.setNth 11 w, decide (w ≠ v))

/-- Zone `v` already stands in another row of the relief list than `row` (R72). -/
def reliefDuplicate (relief : Tab 12 Int) (row : Nat) (v : Int) : Bool :=
  v ≠ 0 && (List.finRange 12).any fun i => (i : Nat) + 1 ≠ row && relief.get i = v

/-- A value written to a field whose table, row and field numbers have passed the checks of R178: clamped, put under
the separation rule R3, refused as a relief-list duplicate (`none`, R72), or stored; with it whether the value was
clamped or its partner moved (R179, R190). -/
def Tables.write (T : Tables) (t row f : Nat) (v : Int) : Option (Tables × Bool) :=
  let w := (fieldSpec t row f).fit v
  if t = 1 ∧ f = 8 then
    let r := (T.zoneRow row).writeHeat v
    some ({ T with zone := T.zone.setNth row r.1 }, r.2)
  else if t = 1 ∧ f = 9 then
    let r := (T.zoneRow row).writeCool v
    some ({ T with zone := T.zone.setNth row r.1 }, r.2)
  else if t = 2 ∧ reliefDuplicate T.relief row w then none
  else some (T.store t row f w, decide (w ≠ v))

/-- The table, row and field numbers of a field that exists (R178, step 1 of R190). -/
def fieldExists (t row f : Nat) : Bool :=
  1 ≤ t && t ≤ 6 && 1 ≤ row && row ≤ tableRows t && 1 ≤ f && f ≤ tableFields t

/-- Every table, row and field number in the order a save writes them (R192): 497 fields. -/
def allFields : List (Nat × Nat × Nat) :=
  [1, 2, 3, 4, 5, 6].flatMap fun t =>
    (List.range (tableRows t)).flatMap fun r => (List.range (tableFields t)).map fun f => (t, r + 1, f + 1)

end Sys2Proof.Machine
end

