-- ==== Sys2Proof/Machine/State.lean ====
section
/-! DEFINITION. The state of the part as plain data, block by block (00_scope, block overview), and its value right
after reset. -/

namespace Sys2Proof.Machine

/-- The reasons a step could stop with a fault: none. The spec lets nothing stop the part; the Fault List and the
lockouts are state (log 7). -/
inductive Fault
  deriving DecidableEq, Repr

/-- The reasons a step could have no meaning. -/
inductive Refusal where
  /-- Raised by exec's arm of a row that has no meaning yet, with the row's mnemonic. Safe. No arm raises it. -/
  | notModelled (mnemonic : String)
  deriving DecidableEq, Repr

/-- A refrigerant direction. As an option, `none` stands for NONE, absent or UNKNOWN as the field says. -/
inductive Side where
  | cool | heat
  deriving DecidableEq, Repr

/-- A timer: stopped (or elapsed, expired), or running until the clock reaches `due` milliseconds (log 2). -/
inductive Timer where
  | stopped
  | running (due : Nat)
  deriving DecidableEq, Repr

def Timer.isRunning : Timer → Bool
  | .stopped => false
  | .running _ => true

/-- Loading the tables, running, or the controlled stop of a warm restart (R194, R195, R196, R197). -/
inductive Phase where
  | loading | running | stopping
  deriving DecidableEq, Repr

/-! The Zone Monitor. -/

/-- The reading state of a zone (R9). -/
inductive Reading where
  | never | fresh | stale
  deriving DecidableEq, Repr

/-- Base occupancy (R9, R26). -/
inductive Occupancy where
  | occupied | setback | away
  deriving DecidableEq, Repr

/-- The economy state (R31). -/
inductive Economy where
  | active | quiet
  deriving DecidableEq, Repr

/-- A zone record (R9), its stale timer (R15) and its override's minute count (R27, R28). -/
structure ZoneRec where
  reading     : Reading
  temp        : Int
  humidity    : Option Int
  age         : Nat
  base        : Occupancy
  override    : Option Nat
  minuteCount : Timer
  shEff       : Int
  scEff       : Int
  rhsEff      : Int
  heat        : Bool
  cool        : Bool
  dry         : Bool
  acc         : Int
  dem         : Int
  dryDem      : Int
  dryExcluded : Bool
  target      : Option Int
  staleTimer  : Timer
  deriving DecidableEq, Repr

/-- The reset values of a zone record (R11); the effective setpoints come from the zone's row. -/
def ZoneRec.reset (row : ZoneRow) : ZoneRec where
  reading := .never
  temp := 0
  humidity := none
  age := 0
  base := .occupied
  override := none
  minuteCount := .stopped
  shEff := row.sh
  scEff := row.sc
  rhsEff := row.rhs
  heat := false
  cool := false
  dry := false
  acc := 0
  dem := 0
  dryDem := 0
  dryExcluded := false
  target := none
  staleTimer := .stopped

/-- The zone holds at least one call. -/
def ZoneRec.calling (r : ZoneRec) : Bool := r.heat || r.cool || r.dry

/-! The Arbitration Engine. -/

/-- The mode of a pass result (R43, R62). -/
inductive Mode where
  | off | fan | cool | heat | dry
  deriving DecidableEq, Repr

/-- A pass result (R43). Zones are numbered from 0 here. -/
structure PassResult where
  number         : Nat
  mode           : Mode
  served         : Option Side
  q              : Int
  f              : Int
  targets        : Tab 12 (Option Int)
  relief         : List (Fin 12)
  changeoverHeld : Bool
  sideBlocked    : Bool
  forcedRelief   : Bool
  airflowShort   : Bool
  deriving DecidableEq, Repr

/-- The engine's state (R36); the relief list is table 2. -/
structure Engine where
  served     : Option Side
  lockout    : Timer
  prevQ      : Int
  lowCount   : Nat
  passNumber : Nat
  starve     : Tab 12 Nat
  mark       : Tab 12 Bool
  latest     : Option PassResult
  passTimer  : Timer
  deriving DecidableEq, Repr

/-- R36's reset values. -/
def Engine.reset : Engine where
  served := none
  lockout := .stopped
  prevQ := 0
  lowCount := 0
  passNumber := 0
  starve := Tab.replicate 12 0
  mark := Tab.replicate 12 false
  latest := none
  passTimer := .stopped

/-! The Plant Sequencer. -/

/-- The plant states (R85, R86). -/
inductive PlantState where
  | idle | fanOnly | startWait | run | overrun | equalize | defrost | recovery | lockout | hardLockout
  deriving DecidableEq, Repr

/-- The phases of a defrost and of its recovery (R113). -/
inductive DefrostPhase where
  | pauseIn | valveIn | startIn | melt | pauseOut | valveOut | startOut | warming
  deriving DecidableEq, Repr

/-- The outstanding causes, each at most once (R85), with the lockout-time timers of the three causes that have one,
and whether a float NORMAL has been filed since the CONDENSATE trigger (R106). -/
structure Causes where
  outdoorFault   : Bool
  condensate     : Bool
  outdoorLost    : Bool
  indoorLost     : Bool
  coilFreeze     : Bool
  outdoorTimer   : Timer
  condTimer      : Timer
  freezeTimer    : Timer
  condNormalSeen : Bool
  deriving DecidableEq, Repr

def Causes.empty : Causes := ⟨false, false, false, false, false, .stopped, .stopped, .stopped, false⟩

/-- The cause is outstanding. -/
def Causes.has (cs : Causes) : LockoutCause → Bool
  | .outdoorFault => cs.outdoorFault
  | .condensate => cs.condensate
  | .outdoorLost => cs.outdoorLost
  | .indoorLost => cs.indoorLost
  | .coilFreeze => cs.coilFreeze

/-- At least one cause is outstanding. -/
def Causes.any (cs : Causes) : Bool :=
  cs.outdoorFault || cs.condensate || cs.outdoorLost || cs.indoorLost || cs.coilFreeze

/-- The sequencer's record (R85) and the defrost record (R113). -/
structure Sequencer where
  state          : PlantState
  runSide        : Option Side
  displayed      : Option LockoutCause
  causes         : Causes
  valveDir       : Option Side
  inFlight       : Option Side
  valveFailed    : Bool
  newest         : Option PassResult
  inForce        : Option PassResult
  cmdQ           : Int
  cmdF           : Int
  minRun         : Timer
  minOff         : Timer
  equalize       : Timer
  overrun        : Timer
  coldDraft      : Timer
  coilFreeze     : Timer
  minRunHold     : Bool
  coldDraftHold  : Bool
  coilFreezeHold : Bool
  capLimit       : Int
  history        : List Nat
  condMark       : Bool
  faultMark      : Bool
  indoorCoil     : Int
  phase          : Option DefrostPhase
  shadow         : Option PassResult
  frostTime      : Nat
  incomplete     : Nat
  defrostCtl     : Int
  pauseTimer     : Timer
  maxTimer       : Timer
  deriving DecidableEq, Repr

/-- The reset values of R109 and R113 but for the min off and equalize timers, which count from the reset (R89). -/
def Sequencer.reset : Sequencer where
  state := .idle
  runSide := none
  displayed := none
  causes := .empty
  valveDir := none
  inFlight := none
  valveFailed := false
  newest := none
  inForce := none
  cmdQ := 0
  cmdF := 0
  minRun := .stopped
  minOff := .stopped
  equalize := .stopped
  overrun := .stopped
  coldDraft := .stopped
  coilFreeze := .stopped
  minRunHold := false
  coldDraftHold := false
  coilFreezeHold := false
  capLimit := 1000
  history := []
  condMark := false
  faultMark := false
  indoorCoil := 0
  phase := none
  shadow := none
  frostTime := 0
  incomplete := 0
  defrostCtl := 0
  pauseTimer := .stopped
  maxTimer := .stopped

/-! The Actuator Queue. -/

/-- The sixteen actuators (R128): the dampers of zones 1..12 (here 0..11), and numbers 13 to 16. -/
inductive Actuator where
  | damper (z : Fin 12)
  | fan
  | compressor
  | valve
  | defrost
  deriving DecidableEq, Repr

/-- The actuator's place in tables over the actuators: its number less 1 (R128). -/
def Actuator.ix : Actuator → Fin 16
  | .damper z => ⟨z, by omega⟩
  | .fan => 12
  | .compressor => 13
  | .valve => 14
  | .defrost => 15

/-- The number of R128: the subject of fault entries. -/
def Actuator.number (a : Actuator) : Nat := a.ix + 1

/-- The statuses of R129. -/
inductive ActStatus where
  | unknown | ready | unresponsive | stalled | outOfField
  deriving DecidableEq, Repr

/-- The origin of a command (R88). -/
inductive Origin where
  | pass | sequencer
  deriving DecidableEq, Repr

/-- The state of an entry (R130). -/
inductive EntryState where
  | waiting | issued | moving
  deriving DecidableEq, Repr

/-- An entry of the command queue (R130) with its travel, ramp or valve timeout (R136). A valve value is 0 for COOL and
1 for HEAT (R160). The command kind follows from the actuator (R128). -/
structure Entry where
  act     : Actuator
  value   : Int
  origin  : Origin
  st      : EntryState
  retries : Nat
  addr    : Option Nat
  seq     : Option Byte
  timeout : Timer
  deriving DecidableEq, Repr

/-- The Actuator Queue (R129, R130, R137, R143). An actuator is reserved exactly when it has an entry in flight (R133),
so the reservations are read from the entries. -/
structure Queue where
  entries       : List Entry
  status        : Tab 16 ActStatus
  refused       : Tab 16 Bool
  lastIssued    : Tab 16 (Option Int)
  lastCompleted : Tab 16 (Option Int)
  deriving DecidableEq, Repr

/-- R150's reset values. -/
def Queue.reset : Queue where
  entries := []
  status := Tab.replicate 16 .unknown
  refused := Tab.replicate 16 false
  lastIssued := Tab.replicate 16 none
  lastCompleted := Tab.replicate 16 none

/-! The Plant Port. -/

/-- What the valve field of an outdoor reply shows (R160). -/
inductive ValveShown where
  | cool | heat | moving
  deriving DecidableEq, Repr

/-- What the state field of a damper reply shows (R160). -/
inductive DamperShown where
  | idle | moving | jammed
  deriving DecidableEq, Repr

/-- The fields filed from an indoor poll reply (R148). -/
structure IndoorData where
  returnAir : Int
  supplyAir : Int
  coil      : Int
  floatHigh : Bool
  actualFan : Int
  deriving DecidableEq, Repr

/-- The fields filed from an outdoor poll reply (R148). -/
structure OutdoorData where
  outdoorAir     : Int
  coil           : Int
  actualCapacity : Int
  valve          : ValveShown
  frostFlag      : Bool
  faultCode      : Nat
  running        : Bool
  deriving DecidableEq, Repr

/-- The fields filed from a damper poll reply (R148). -/
structure DamperData where
  position : Int
  shown    : DamperShown
  deriving DecidableEq, Repr

/-- An entry's fields, in the form of the node type the poll expected (R148). -/
inductive CacheBody where
  | indoor (d : IndoorData)
  | outdoor (d : OutdoorData)
  | damper (d : DamperData)
  deriving DecidableEq, Repr

/-- An entry of the poll cache; `arrival` is in seconds since power-on (R148). -/
structure CacheEntry where
  addr    : Nat
  arrival : Nat
  body    : CacheBody
  deriving DecidableEq, Repr

/-- Which replies answer a frame by kind and length (R135): an ACCEPT or a REFUSE, the poll reply of one node type, or a
reply of any kind. -/
inductive Awaited where
  | command
  | indoor
  | outdoor
  | damper
  | any
  deriving DecidableEq, Repr

/-- What the frame of the exchange in progress was: a command's entry, a poll of target 0..13 (indoor board, outdoor
board, dampers of zones 1..12), the forwarded frame of a held-reply slot, or a slot in progress when a warm restart
cleared the queue, of which the replies it awaits are kept and whose outcome is discarded (R150). -/
inductive ExchangeKind where
  | command (a : Actuator)
  | poll (target : Fin 14)
  | forward (slot : Fin 4) (kind : Byte) (payload : List Byte) (retried : Bool)
  | orphan (awaited : Awaited)
  deriving DecidableEq, Repr

/-- The one exchange in progress: the address and sequence of the frame and its reply window (R135). -/
structure Exchange where
  what   : ExchangeKind
  addr   : Nat
  seq    : Byte
  window : Timer
  deriving DecidableEq, Repr

/-- A due retransmission (R138, R145). -/
inductive Retransmission where
  | command (a : Actuator)
  | forward (slot : Fin 4) (addr : Nat) (seq : Byte) (kind : Byte) (payload : List Byte)
  deriving DecidableEq, Repr

/-- A poll round in progress (R146): the due poll's target and address, and the addresses polled so far in the round. -/
structure Round where
  target : Fin 14
  addr   : Nat
  polled : List Nat
  deriving DecidableEq, Repr

/-- The Plant Port (R135, R144, R146, R147, R148). -/
structure PlantPort where
  cache        : List CacheEntry
  exchange     : Option Exchange
  retx         : Option Retransmission
  seqCount     : Byte
  grants       : List Bool
  round        : Option Round
  roundTimer   : Timer
  roundWaiting : Bool
  missed       : Tab 14 Nat
  lastAddr     : Tab 14 (Option Nat)
  lostIndoor   : Bool
  lostOutdoor  : Bool
  deriving DecidableEq, Repr

/-- R150's reset values. -/
def PlantPort.reset : PlantPort where
  cache := []
  exchange := none
  retx := none
  seqCount := 0
  grants := []
  round := none
  roundTimer := .stopped
  roundWaiting := false
  missed := Tab.replicate 14 0
  lastAddr := Tab.replicate 14 none
  lostIndoor := false
  lostOutdoor := false

/-! The Room Port. -/

/-- A held-reply slot (R165). A PENDING slot keeps the request's payload while its frame waits in the pass-through
queue. A READY slot holds the plant reply's kind and payload, or `none` for NO_ANSWER. -/
inductive Slot where
  | free
  | pending (requester proxy kind seq : Byte) (payload : Option (List Byte))
  | ready (requester proxy kind seq : Byte) (outcome : Option (Byte × List Byte)) (discard : Timer)
  deriving DecidableEq, Repr

/-- The held-reply slots and the pass-through queue, oldest first (R165). -/
structure RoomPort where
  slots       : Tab 4 Slot
  passThrough : List (Fin 4)
  deriving DecidableEq, Repr

/-- R165's reset values. -/
def RoomPort.reset : RoomPort := ⟨Tab.replicate 4 .free, []⟩

/-! The Management Unit. -/

/-- The broadcast state (R185) and the broadcast count (R158). -/
structure Management where
  period  : Timer
  holdoff : Timer
  pending : Bool
  count   : Byte
  deriving DecidableEq, Repr

/-- The reset values of R185 and R158. -/
def Management.reset : Management := ⟨.stopped, .stopped, false, 0⟩

/-! The Store Loader. -/

/-- What is being written to the store; anything but `idle` is the save-in-progress indication (R183, R193). A meter
write holds the values of meters 0..7 it took when it began. -/
inductive Saving where
  | idle
  | save
  | meterWrite (meters : List Nat)
  deriving DecidableEq, Repr

/-- The store and the loader's state (R161, R183, R189, R190, R193). `cells` holds the bytes that are not FF hex,
addresses rising. -/
structure StoreLoader where
  cells          : List Host.Cell
  answers        : Bool
  wpHigh         : Bool
  saving         : Saving
  lastMeterWrite : Nat
  skipped        : Nat
  deriving DecidableEq, Repr

/-! The Fault List. -/

/-- The fault kinds (R181, R201). -/
inductive FaultKind where
  | sensorStale | actuatorUnresponsive | actuatorStalled | nodeRefused | addressRange | outdoorFault | outdoorLost
  | indoorLost | condensateHigh | coilFreeze | defrostIncomplete | hardLockout | storeRecordSkipped
  deriving DecidableEq, Repr

/-- An entry of the Fault List (R201). -/
structure FaultEntry where
  kind    : FaultKind
  subject : Nat
  minute  : Nat
  detail  : Int
  deriving DecidableEq, Repr

/-- The whole part. `clock` is milliseconds since power-on (log 2); `resetAt` is the clock at the power-on or the start
of the warm restart (R89). `region` holds, during a save, the values of meters 0..7 that the write of the meter region
began with, once a later count has changed one of them (R192, log 11). `roomOut` and `plantOut` record the frames sent,
oldest first (log 6). `pending` holds the commands that wait, first in, first out. -/
structure State where
  phase      : Phase
  clock      : Nat
  resetAt    : Nat
  uptime     : Nat
  tables     : Tables
  zones      : Tab 12 ZoneRec
  economy    : Economy
  quietTimer : Timer
  engine     : Engine
  seq        : Sequencer
  queue      : Queue
  port       : PlantPort
  room       : RoomPort
  mgmt       : Management
  store      : StoreLoader
  region     : Option (List Nat)
  meters     : Tab 23 Nat
  faults     : List FaultEntry
  roomOut    : List Frame
  plantOut   : List Frame
  pending    : List Instr
  deriving DecidableEq, Repr

/-- The part right after reset: powered on at clock 0 with a blank store (log 4), loading its tables (R194). Min off and
equalize count from the power-on with the values loaded, here the defaults (R89). -/
def State.reset : State where
  phase := .loading
  clock := 0
  resetAt := 0
  uptime := 0
  tables := Tables.default
  zones := Tables.default.zone.map ZoneRec.reset
  economy := .active
  quietTimer := .stopped
  engine := Engine.reset
  seq := { Sequencer.reset with minOff := .running 300000, equalize := .running 180000 }
  queue := Queue.reset
  port := PlantPort.reset
  room := RoomPort.reset
  mgmt := Management.reset
  store := ⟨[], true, false, .idle, 0, 0⟩
  region := none
  meters := Tab.replicate 23 0
  faults := []
  roomOut := []
  plantOut := []
  pending := []

end Sys2Proof.Machine
end

