-- ==== Sys2Proof/Machine/Ops.lean ====
section
/-! DEFINITION. The named operations over the part's memory and records that every block shares: the store's bytes, its
record stream and its pages; timers; meters; the Fault List; sending a frame. -/

namespace Sys2Proof.Machine

/-- What a meaning answers. -/
abbrev Result := Host.Outcome State Fault Refusal

/-! The store (R161): 4,096 bytes in one canonical form. -/

/-- The byte at an address; an unlisted address reads FF hex (R189). -/
def cellAt : List Host.Cell → Nat → Byte
  | [], _ => 0xFF
  | c :: cs, a => if c.1 = a then c.2 else cellAt cs a

/-- The cells of a run of bytes from address `a` on, less those that read as unlisted bytes do. -/
def listedFrom : Nat → List Byte → List Host.Cell
  | _, [] => []
  | a, b :: bs => if b = 0xFF then listedFrom (a + 1) bs else (a, b) :: listedFrom (a + 1) bs

/-- Writes a run of bytes from address `a` on, keeping the canonical form. -/
def writeBlock (cells : List Host.Cell) (a : Nat) (bs : List Byte) : List Host.Cell :=
  cells.filter (fun c => c.1 < a) ++ listedFrom a bs ++ cells.filter (fun c => a + bs.length ≤ c.1)

/-- The canonical form: addresses strictly rising and inside the store, no cell equal to what an unlisted address
reads as. -/
abbrev Memory.wf (cells : List Host.Cell) : Prop :=
  cells.Pairwise (fun x y => x.1 < y.1) ∧ ∀ c ∈ cells, c.1 < Config.storeSize ∧ c.2 ≠ 0xFF

/-- The byte the loader reads; a store that does not answer reads as FF hex (R189). -/
def StoreLoader.byte (st : StoreLoader) (a : Nat) : Byte := if st.answers then cellAt st.cells a else 0xFF

/-- `n` bytes from address `a` on. -/
def StoreLoader.bytes (st : StoreLoader) (a n : Nat) : List Byte := (List.range n).map fun i => st.byte (a + i)

/-- Applies the records from record `r` on, at most `fuel` of them, to the tables as they stand, counting those skipped;
the first record whose table id is FF hex ends the stream (R189, R190). -/
def loadRecords (st : StoreLoader) : Nat → Nat → Tables → Nat → Tables × Nat
  | 0, _, T, skipped => (T, skipped)
  | fuel + 1, r, T, skipped =>
    let id := (st.byte (6 * r)).toNat
    if id = 255 then (T, skipped)
    else
      let row := (st.byte (6 * r + 1)).toNat
      let f := (st.byte (6 * r + 2)).toNat
      let v := signed (st.bytes (6 * r + 3) 3)
      if fieldExists id row f then
        match T.write id row f v with
        | some (T', _) => loadRecords st fuel (r + 1) T' skipped
        | none => loadRecords st fuel (r + 1) T (skipped + 1)
      else loadRecords st fuel (r + 1) T (skipped + 1)

/-- The tables after a load and the records skipped in it: the defaults, then the stream of 672 records (R189, R190). -/
def loadTables (st : StoreLoader) : Tables × Nat := loadRecords st 672 0 Tables.default 0

/-- Meters 0..7 as the meter region holds them; all 0 where its 32 bytes are FF hex (R189). -/
def storedMeters (st : StoreLoader) : List Nat :=
  if (st.bytes 4032 32).all (· = 0xFF) then List.replicate 8 0
  else (List.range 8).map fun m => (unsigned (st.bytes (4032 + 4 * m) 4)).toNat

/-- The 2,988 bytes a save writes from byte 0 on: 497 records and the terminator (R161, R192). -/
def recordBytes (T : Tables) : List Byte :=
  (allFields.flatMap fun x =>
    [BitVec.ofNat 8 x.1, BitVec.ofNat 8 x.2.1, BitVec.ofNat 8 x.2.2] ++ bytes3 (T.read x.1 x.2.1 x.2.2))
  ++ List.replicate 6 0xFF

/-- The 32 bytes of the meter region (R161). -/
def meterBytes (meters : List Nat) : List Byte := meters.flatMap fun m : Nat => bytes4 m

/-- The store after the first `pages` pages of a save: 94 pages of 32 bytes for the records, then the meter region's
page (R192). -/
def afterSavePages (cells : List Host.Cell) (T : Tables) (meters : List Nat) (pages : Nat) : List Host.Cell :=
  let records := writeBlock cells 0 ((recordBytes T).take (32 * pages))
  if pages ≥ 95 then writeBlock records 4032 (meterBytes meters) else records

/-- Meters 0..7, the ones that are stored (R200). -/
def State.meters8 (s : State) : List Nat := s.meters.data.take 8

/-- The values of meters 0..7 that a save writes: those its meter region began with, which are the present ones where no
count has come after that moment (R192, log 11). -/
def State.regionMeters (s : State) : List Nat := s.region.getD s.meters8

/-- The store with the first `pages` pages of what is being written completed (R192, R193). -/
def State.cellsAfterPages (s : State) (pages : Nat) : List Host.Cell :=
  match s.store.saving with
  | .idle => s.store.cells
  | .save => afterSavePages s.store.cells s.tables s.regionMeters pages
  | .meterWrite ms => if pages ≥ 1 then writeBlock s.store.cells 4032 (meterBytes ms) else s.store.cells

/-! Timers (log 2). -/

/-- Milliseconds of a parameter in seconds. -/
def secs (v : Int) : Nat := v.toNat * 1000

/-- Milliseconds of a parameter in minutes. -/
def mins (v : Int) : Nat := v.toNat * 60000

/-- A timer started now. -/
def State.timer (s : State) (ms : Nat) : Timer := .running (s.clock + ms)

/-- The remaining time in whole units of `ms` milliseconds, rounded up; 0 where the timer is stopped (R177). -/
def Timer.remaining (t : Timer) (now ms : Nat) : Nat :=
  match t with
  | .stopped => 0
  | .running due => (due - now + (ms - 1)) / ms

def State.secsLeft (s : State) (t : Timer) : Nat := t.remaining s.clock 1000

def State.minsLeft (s : State) (t : Timer) : Nat := t.remaining s.clock 60000

/-! Meters and the Fault List. -/

/-- A count that stops at 4,294,967,295 (R198, R199). -/
def sat32 (n : Nat) : Nat := min Config.max32 n

/-- What a save's meter region holds once meters are counted: the values before the count, where its write has begun and
the count changes one of meters 0..7 (R192, log 11). -/
def State.regionAtCount (s : State) (stored : Bool) : Option (List Nat) :=
  if stored = true ∧ s.store.saving = .save ∧ s.region = none ∧ Config.regionBegun s.clock s.meters8 = true then
    some s.meters8
  else s.region

/-- Meter `m` rises by 1 (R198). -/
def State.count (s : State) (m : Fin 23) : State :=
  { s with region := s.regionAtCount (m.val < 8), meters := s.meters.modify m fun n => sat32 (n + 1) }

/-- Meters of `which` rise by 1 (R199). -/
def State.countAll (s : State) (which : Fin 23 → Bool) : State :=
  { s with
    region := s.regionAtCount ((List.finRange 23).any fun m => m.val < 8 && which m)
    meters := s.meters.mapIdx fun i n => if which i then sat32 (n + 1) else n }

/-- The Fault List takes an entry at its tail, the oldest leaving first where it holds 16 (R201). -/
def pushFault (fs : List FaultEntry) (e : FaultEntry) : List FaultEntry :=
  (if fs.length ≥ 16 then fs.drop (fs.length - 15) else fs) ++ [e]

/-- Records a fault with the present uptime minute (R201). -/
def State.fault (s : State) (kind : FaultKind) (subject : Nat) (detail : Int) : State :=
  { s with faults := pushFault s.faults ⟨kind, subject, s.uptime, detail⟩ }

/-! Frames leaving the part. -/

/-- The part's own room address (table 6 field 5). -/
def State.ownAddress (s : State) : Byte := byteOf s.tables.report.ownAddress

/-- Sends a frame on the room bus. -/
def State.sendRoom (s : State) (f : Frame) : State := { s with roomOut := s.roomOut ++ [f] }

/-- Answers a request with a REPLY: the answer goes to the request's source with its sequence, from the address the
request was sent to (R158, R159). -/
def State.reply (s : State) (src dst seq : Byte) (st : Status) (data : List Byte) : State :=
  s.sendRoom ⟨dst, src, kindReply, seq, st.code :: data⟩

/-- Sends a frame on the plant bus (source 1, R135) and opens its exchange with the 50 ms reply window. -/
def State.sendPlant (s : State) (what : ExchangeKind) (addr : Nat) (seq kind : Byte) (payload : List Byte) : State :=
  { s with
    plantOut := s.plantOut ++ [⟨BitVec.ofNat 8 addr, Config.plantAddress, kind, seq, payload⟩]
    port := { s.port with exchange := some ⟨what, addr, seq, s.timer 50⟩ } }

/-! Zones. -/

/-- Zone number `k` of 1..12 as an index; `none` for any other number. -/
def zoneIx (k : Nat) : Option (Fin 12) := if h : 1 ≤ k ∧ k ≤ 12 then some ⟨k - 1, by omega⟩ else none

/-- The row of zone `z`. -/
def State.row (s : State) (z : Fin 12) : ZoneRow := s.tables.zone.get z

/-- The record of zone `z`. -/
def State.zone (s : State) (z : Fin 12) : ZoneRec := s.zones.get z

/-- Changes the record of zone `z`. -/
def State.setZone (s : State) (z : Fin 12) (f : ZoneRec → ZoneRec) : State := { s with zones := s.zones.modify z f }

/-- A sum over the zones that the text names (R1). -/
def sumZones (f : Fin 12 → Int) : Int := ((List.finRange 12).map f).sum

/-- A millisecond passes with nothing to do (log 2). -/
def State.idle (s : State) : State := { s with clock := s.clock + 1 }

end Sys2Proof.Machine
end

