-- ==== Sys2Proof/Machine/Operands.lean ====
section
/-! DEFINITION. The operand forms: the payloads of room requests (R159, R174), of plant commands and replies (R160), with
the clamps of R155 and the codes each layout defines. A payload of another length, or with a code the layout does not
define, gives `none`. With them which replies answer a frame sent (R135). -/

namespace Sys2Proof.Machine

/-! Room requests (R174). -/

/-- A SET_ZONE as sent; a part that is not present is not read. Occupancy code 3 is OVERRIDE. -/
structure SetZoneArgs where
  zone      : Nat
  heat      : Option Int
  cool      : Option Int
  dry       : Option Int
  occupancy : Option Nat
  deriving DecidableEq, Repr

def parseSetZone (p : List Byte) : Option SetZoneArgs :=
  match p with
  | [zone, parts, h1, h0, c1, c0, d1, d0, occ] =>
    let n := parts.toNat
    if n = 0 ∨ n > 15 ∨ (8 ≤ n ∧ occ.toNat > 3) then none
    else some
      { zone := zone.toNat
        heat := if n % 2 = 1 then some (signed [h1, h0]) else none
        cool := if n / 2 % 2 = 1 then some (signed [c1, c0]) else none
        dry := if n / 4 % 2 = 1 then some (unsigned [d1, d0]) else none
        occupancy := if 8 ≤ n then some occ.toNat else none }
  | _ => none

def parseReadZone (p : List Byte) : Option Nat :=
  match p with
  | [zone] => some zone.toNat
  | _ => none

def parseReadStatus (p : List Byte) : Option (Nat × Nat) :=
  match p with
  | [section_, start] => if section_.toNat ≤ 8 ∧ start.toNat ≤ 31 then some (section_.toNat, start.toNat) else none
  | _ => none

/-- Table, row and field. -/
def parseReadField (p : List Byte) : Option (Nat × Nat × Nat) :=
  match p with
  | [t, r, f] => some (t.toNat, r.toNat, f.toNat)
  | _ => none

/-- Table, row, field and signed value. -/
def parseWriteField (p : List Byte) : Option (Nat × Nat × Nat × Int) :=
  match p with
  | [t, r, f, v2, v1, v0] => some (t.toNat, r.toNat, f.toNat, signed [v2, v1, v0])
  | _ => none

/-- Meter index and narrow. -/
def parseReadMeter (p : List Byte) : Option (Nat × Bool) :=
  match p with
  | [m, narrow] => if narrow.toNat ≤ 1 then some (m.toNat, narrow.toNat = 1) else none
  | _ => none

def parseReadFaults (p : List Byte) : Option Nat :=
  match p with
  | [start] => if start.toNat ≤ 15 then some start.toNat else none
  | _ => none

/-- A request without a payload: CLEAR_LOCKOUT, SAVE_CONFIG, RESTART. -/
def parseEmpty (p : List Byte) : Option Unit :=
  match p with
  | [] => some ()
  | _ => none

/-- A kind and payload that pass the form check of R173. -/
def wellFormedRequest (kind : Byte) (p : List Byte) : Bool :=
  (kind = kindSetZone && (parseSetZone p).isSome) || (kind = kindReadZone && (parseReadZone p).isSome)
  || (kind = kindReadStatus && (parseReadStatus p).isSome) || (kind = kindReadField && (parseReadField p).isSome)
  || (kind = kindWriteField && (parseWriteField p).isSome) || (kind = kindReadMeter && (parseReadMeter p).isSome)
  || (kind = kindReadFaults && (parseReadFaults p).isSome)
  || ((kind = kindClearLockout || kind = kindSaveConfig || kind = kindRestart) && (parseEmpty p).isSome)

/-! Room readings (R14, R159). -/

/-- A ZONE_REPORT as its values are stored: zone number, temperature and, where sent, humidity, clamped (R14). -/
def parseZoneReport (p : List Byte) : Option (Nat × Int × Option Int) :=
  match p with
  | [zone, t1, t0] => some (zone.toNat, clamp (-400) 850 (signed [t1, t0]), none)
  | [zone, t1, t0, h1, h0] =>
    some (zone.toNat, clamp (-400) 850 (signed [t1, t0]), some (clamp 0 1000 (unsigned [h1, h0])))
  | _ => none

/-! Plant replies (R155, R160). -/

def parseIndoor (p : List Byte) : Option IndoorData :=
  match p with
  | [a1, a0, b1, b0, c1, c0, fl, fan] =>
    if fl.toNat ≤ 1 then
      some
        { returnAir := clamp (-400) 850 (signed [a1, a0])
          supplyAir := clamp (-400) 850 (signed [b1, b0])
          coil := clamp (-400) 850 (signed [c1, c0])
          floatHigh := fl.toNat = 1
          actualFan := clamp 0 100 (unsigned [fan]) }
    else none
  | _ => none

def valveShownOf (c : Nat) : Option ValveShown :=
  match c with
  | 0 => some .cool
  | 1 => some .heat
  | 2 => some .moving
  | _ => none

def parseOutdoor (p : List Byte) : Option OutdoorData :=
  match p with
  | [a1, a0, b1, b0, c1, c0, v, frost, code, run] =>
    match valveShownOf v.toNat with
    | some valve =>
      if frost.toNat ≤ 1 ∧ run.toNat ≤ 1 then
        some
          { outdoorAir := clamp (-400) 850 (signed [a1, a0])
            coil := clamp (-400) 850 (signed [b1, b0])
            actualCapacity := clamp 0 1000 (unsigned [c1, c0])
            valve := valve
            frostFlag := frost.toNat = 1
            faultCode := code.toNat
            running := run.toNat = 1 }
      else none
    | none => none
  | _ => none

def damperShownOf (c : Nat) : Option DamperShown :=
  match c with
  | 0 => some .idle
  | 1 => some .moving
  | 2 => some .jammed
  | _ => none

def parseDamper (p : List Byte) : Option DamperData :=
  match p with
  | [pos, st] => (damperShownOf st.toNat).map fun shown => ⟨clamp 0 100 (unsigned [pos]), shown⟩
  | _ => none

/-! The replies that answer a frame (R135). -/

/-- The replies that an exchange awaits (R135): a slot left over from a warm restart's clearing awaits those it was sent for
(R150). -/
def ExchangeKind.awaited (what : ExchangeKind) : Awaited :=
  match what with
  | .command _ => .command
  | .poll t => if t = 0 then .indoor else if t = 1 then .outdoor else .damper
  | .forward _ _ _ _ => .any
  | .orphan w => w

/-- The kind and length of a frame answer what is awaited, and an enumerated field of a poll reply holds a defined code
(R135, R155, R160). -/
def Awaited.takes (w : Awaited) (kind : Byte) (payload : List Byte) : Bool :=
  match w with
  | .command => (kind = kindAccept && payload = []) || (kind = kindRefuse && payload.length ≤ 1)
  | .indoor => kind = kindIndoorReply && (parseIndoor payload).isSome
  | .outdoor => kind = kindOutdoorReply && (parseOutdoor payload).isSome
  | .damper => kind = kindDamperReply && (parseDamper payload).isSome
  | .any => true

/-! The same payloads formed (R160, R164). -/

def ValveShown.code : ValveShown → Int
  | .cool => 0
  | .heat => 1
  | .moving => 2

def DamperShown.code : DamperShown → Int
  | .idle => 0
  | .moving => 1
  | .jammed => 2

/-- The byte of a flag. -/
def flagByte (b : Bool) : Byte := if b then 1 else 0

/-- The reply kind and payload that carry a cache entry's values (R160, R164). -/
def CacheBody.reply : CacheBody → Byte × List Byte
  | .indoor d =>
    (kindIndoorReply, bytes2 d.returnAir ++ bytes2 d.supplyAir ++ bytes2 d.coil ++ [flagByte d.floatHigh, byteOf d.actualFan])
  | .outdoor d =>
    (kindOutdoorReply, bytes2 d.outdoorAir ++ bytes2 d.coil ++ bytes2 d.actualCapacity
      ++ [byteOf d.valve.code, flagByte d.frostFlag, byteOf d.faultCode, flagByte d.running])
  | .damper d => (kindDamperReply, [byteOf d.position, byteOf d.shown.code])

/-! Plant commands (R128, R160). -/

/-- The value of a valve command, a valve fault detail and the codes of READ_STATUS: COOL 0, HEAT 1. -/
def Side.code : Side → Int
  | .cool => 0
  | .heat => 1

/-- The command kind of an actuator (R128). -/
def Actuator.kind : Actuator → Byte
  | .damper _ => kindDamperSet
  | .fan => kindFanSet
  | .compressor => kindCapacitySet
  | .valve => kindValveSet
  | .defrost => kindDefrostSet

/-- The payload of an actuator's command: two bytes for a capacity, one for every other value (R160). -/
def Actuator.payload (a : Actuator) (v : Int) : List Byte :=
  match a with
  | .compressor => bytes2 v
  | _ => [byteOf v]

end Sys2Proof.Machine
end

