-- ==== Sys2Proof/Machine/ActuatorQueue.lean ====
section
/-! DEFINITION. The Actuator Queue's own operations (7.1, 7.2): enqueueing and merging (R131), the stop that overtakes
(R132), reservations (R133), addresses (R134), statuses (R129, R142) and the fault a change of status records. -/

namespace Sys2Proof.Machine

/-- The entry of the actuator that is ISSUED or MOVING. -/
def Queue.inFlight (q : Queue) (a : Actuator) : Option Entry :=
  q.entries.find? fun e => e.act = a && e.st ≠ .waiting

/-- The actuator is reserved (R133). -/
def Queue.reserved (q : Queue) (a : Actuator) : Bool := (q.inFlight a).isSome

/-- The actuator has a WAITING entry. -/
def Queue.hasWaiting (q : Queue) (a : Actuator) : Bool := q.entries.any fun e => e.act = a && e.st = .waiting

/-- A new WAITING entry (R131). -/
def Entry.fresh (a : Actuator) (v : Int) (o : Origin) : Entry := ⟨a, v, o, .waiting, 0, none, none, .stopped⟩

/-- A compressor command of value 0 removes a MOVING compressor entry (R132). -/
def overtake (es : List Entry) (a : Actuator) (v : Int) : List Entry :=
  if a = .compressor ∧ v = 0 then es.filter fun e => !(e.act = .compressor && e.st = .moving) else es

/-- A WAITING entry of the actuator takes the new value and origin in its place (R131). -/
def Entry.merge (a : Actuator) (v : Int) (o : Origin) (e : Entry) : Entry :=
  if e.act = a ∧ e.st = .waiting then { e with value := v, origin := o } else e

/-- Takes a command: merged into the actuator's WAITING entry, or appended at the tail (R131, R132). -/
def Queue.enqueue (q : Queue) (a : Actuator) (v : Int) (o : Origin) : Queue :=
  let es := overtake q.entries a v
  { q with entries := if q.hasWaiting a then es.map (Entry.merge a v o) else es ++ [Entry.fresh a v o] }

/-- Removes the actuator's entry in flight, which clears its reservation (R133). -/
def Queue.removeInFlight (q : Queue) (a : Actuator) : Queue :=
  { q with entries := q.entries.filter fun e => !(e.act = a && e.st ≠ .waiting) }

/-- Removes the actuator's WAITING entry (R134). -/
def Queue.removeWaiting (q : Queue) (a : Actuator) : Queue :=
  { q with entries := q.entries.filter fun e => !(e.act = a && e.st = .waiting) }

/-- Changes the actuator's entry in flight. -/
def Queue.updInFlight (q : Queue) (a : Actuator) (f : Entry → Entry) : Queue :=
  { q with entries := q.entries.map fun e => if e.act = a ∧ e.st ≠ .waiting then f e else e }

/-- A status that an answer of the node ends (R142). -/
def ActStatus.answered (st : ActStatus) : ActStatus := if st = .stalled then .stalled else .ready

/-- The actuator's node has answered (R142). -/
def Queue.answered (q : Queue) (a : Actuator) : Queue := { q with status := q.status.modify a.ix ActStatus.answered }

/-- A command of the actuator has completed: its entry leaves, its value is kept and STALLED ends (R142, R143). -/
def Queue.complete (q : Queue) (a : Actuator) (v : Int) : Queue :=
  { q.removeInFlight a with
    status := q.status.set a.ix .ready
    lastCompleted := q.lastCompleted.set a.ix (some v) }

/-- Changes the queue of the part. -/
def State.setQueue (s : State) (f : Queue → Queue) : State := { s with queue := f s.queue }

/-- The actuator's status becomes `st`; the fault entry is recorded where that is a change (R129). -/
def State.fail (s : State) (a : Actuator) (st : ActStatus) (kind : FaultKind) (detail : Int) : State :=
  let s1 := if s.queue.status.get a.ix = st then s else s.fault kind a.number detail
  s1.setQueue fun q => { q with status := q.status.set a.ix st }

/-! Addresses (R134). -/

/-- The address of the damper of zone `z` as it stands: damper base plus channel. -/
def State.damperAddress (s : State) (z : Fin 12) : Nat := (s.tables.plant.damperBase + (s.row z).channel).toNat

/-- That address lies outside the damper field: the channel at or above the field length, or the address above 63. -/
def State.outsideField (s : State) (z : Fin 12) : Bool :=
  (s.row z).channel ≥ s.tables.plant.damperFieldLength || s.tables.plant.damperBase + (s.row z).channel > 63

def State.indoorAddress (s : State) : Nat := s.tables.plant.indoorAddress.toNat
def State.outdoorAddress (s : State) : Nat := s.tables.plant.outdoorAddress.toNat

/-- The address a command of the actuator is issued to (R128, R134). -/
def State.commandAddress (s : State) : Actuator → Nat
  | .damper z => s.damperAddress z
  | .fan => s.indoorAddress
  | _ => s.outdoorAddress

/-- The actuator is a damper whose address lies outside the damper field (R134). -/
def State.unaddressable (s : State) : Actuator → Bool
  | .damper z => s.outsideField z
  | _ => false

/-! The poll cache as its readers see it (R148). -/

/-- The entry of a plant address. -/
def State.cached (s : State) (addr : Nat) : Option CacheEntry := s.port.cache.find? fun e => e.addr = addr

def CacheBody.indoor? : CacheBody → Option IndoorData
  | .indoor d => some d
  | _ => none

def CacheBody.outdoor? : CacheBody → Option OutdoorData
  | .outdoor d => some d
  | _ => none

def CacheBody.damper? : CacheBody → Option DamperData
  | .damper d => some d
  | _ => none

/-- The indoor entry (R148, log 16). -/
def State.indoorEntry (s : State) : Option IndoorData := s.port.cache.findSome? fun e => e.body.indoor?

/-- The outdoor entry (R40, R148, log 16). -/
def State.outdoorEntry (s : State) : Option OutdoorData := s.port.cache.findSome? fun e => e.body.outdoor?

/-- The damper entry of an address (R69, R148). -/
def State.damperEntry (s : State) (addr : Nat) : Option DamperData := (s.cached addr).bind fun e => e.body.damper?

/-- The position of the latest damper reply from an address, 0 where the cache holds none (R139). -/
def State.cachedPosition (s : State) (addr : Nat) : Int := ((s.damperEntry addr).map DamperData.position).getD 0

end Sys2Proof.Machine
end

