-- ==== Sys2Proof/Machine/Flags.lean ====
section
/-! DEFINITION. What the Zone Monitor works out from a zone: effective setpoints (R19), the call latches (R22, R23, R24)
and the quiet condition (R32). -/

namespace Sys2Proof.Machine

/-- The zone is treated as OCCUPIED while its override runs (R19). -/
def ZoneRec.occupancy (r : ZoneRec) : Occupancy := if r.override.isSome then .occupied else r.base

/-- Recomputes the effective setpoints (R19). -/
def ZoneRec.recompute (r : ZoneRec) (row : ZoneRow) (p : PlantTable) : ZoneRec :=
  match r.occupancy with
  | .occupied => { r with shEff := row.sh, scEff := row.sc, rhsEff := row.rhs }
  | .setback =>
    { r with shEff := max 50 (row.sh - row.setback), scEff := min 380 (row.sc + row.setback), rhsEff := row.rhs }
  | .away => { r with shEff := p.frostSetpoint, scEff := p.awayCool, rhsEff := p.awayDry }

/-- HEAT clears with its accumulator and demand (R22 test 1, R24). -/
def ZoneRec.testHeatClear (r : ZoneRec) : ZoneRec :=
  if r.heat ∧ r.shEff - r.temp ≤ 0 then { r with heat := false, acc := 0, dem := 0 } else r

/-- COOL clears with its accumulator and demand (R22 test 2, R24). -/
def ZoneRec.testCoolClear (r : ZoneRec) : ZoneRec :=
  if r.cool ∧ r.temp - r.scEff ≤ 0 then { r with cool := false, acc := 0, dem := 0 } else r

/-- The humidity is absent or at or below `limit`. -/
def humidityAtMost (h : Option Int) (limit : Int) : Bool :=
  match h with
  | none => true
  | some x => x ≤ limit

/-- The humidity is present and at or above `limit`. -/
def humidityAtLeast (h : Option Int) (limit : Int) : Bool :=
  match h with
  | none => false
  | some x => limit ≤ x

/-- DRY clears with its dry demand (R22 test 3, R23, R24). -/
def ZoneRec.testDryClear (r : ZoneRec) : ZoneRec :=
  if r.dry ∧ humidityAtMost r.humidity r.rhsEff then { r with dry := false, dryDem := 0 } else r

/-- HEAT sets; every demand starts from 0 (R22 test 4, R24). -/
def ZoneRec.testHeatSet (r : ZoneRec) (hon : Int) : ZoneRec :=
  if ¬ r.heat ∧ r.shEff - r.temp ≥ hon then { r with heat := true, acc := 0, dem := 0, dryDem := 0 } else r

/-- COOL sets; its demand starts from 0 (R22 test 5, R24). -/
def ZoneRec.testCoolSet (r : ZoneRec) (hon : Int) : ZoneRec :=
  if ¬ r.cool ∧ r.temp - r.scEff ≥ hon then { r with cool := true, acc := 0, dem := 0 } else r

/-- DRY sets; its dry demand stays 0 until a pass forms it (R22 test 6, R23, R24). -/
def ZoneRec.testDrySet (r : ZoneRec) (rhOn : Int) : ZoneRec :=
  if ¬ r.dry ∧ humidityAtLeast r.humidity (r.rhsEff + rhOn) then { r with dry := true } else r

/-- Evaluates the calls, clear tests first (R21, R22): only while the zone is enabled and FRESH or STALE. -/
def ZoneRec.evaluate (r : ZoneRec) (row : ZoneRow) (p : PlantTable) : ZoneRec :=
  if row.enabled ∧ r.reading ≠ .never then
    ((((r.testHeatClear.testCoolClear).testDryClear).testHeatSet p.hon).testCoolSet p.hon).testDrySet p.rhOn
  else r

/-- Recomputes the effective setpoints and then evaluates the calls (R20). -/
def ZoneRec.refresh (r : ZoneRec) (row : ZoneRow) (p : PlantTable) : ZoneRec := (r.recompute row p).evaluate row p

/-- Zone `z` of the part refreshed (R20). -/
def State.refreshZone (s : State) (z : Fin 12) : State := s.setZone z fun r => r.refresh (s.row z) s.tables.plant

/-- A zone keeps the quiet condition: base occupancy AWAY, no override, no call (R32). -/
def ZoneRec.keepsQuiet (r : ZoneRec) : Bool := r.base = .away && r.override.isNone && !r.calling

/-- The quiet condition over every enabled zone (R32). -/
def State.quietCondition (s : State) : Bool :=
  (List.finRange 12).all fun z => !(s.row z).enabled || (s.zone z).keepsQuiet

/-- A call set between `r` and `r'`. -/
def latched (r r' : ZoneRec) : Bool := (!r.heat && r'.heat) || (!r.cool && r'.cool) || (!r.dry && r'.dry)

/-- A call has been latched in an enabled zone between `s` and `s'` (R34). -/
def callLatched (s s' : State) : Bool :=
  (List.finRange 12).any fun z => (s'.row z).enabled && latched (s.zone z) (s'.zone z)

end Sys2Proof.Machine
end

