-- ==== Sys2Proof/Machine/Pass.lean ====
section
/-! DEFINITION. The arbitration pass (chapters 3 and 4): stages 1 to 8 as functions of what the pass reads (R39), and
the pass result (R43). Nothing here changes state; Machine/Sequencer.lean ends the pass (R63). -/

namespace Sys2Proof.Machine

/-- What a pass reads (R39): rows, records, parameters, the engine, the relief list, the held outdoor air (R40), each
damper actuator's status and the cached position at each damper's address (R68, R69). -/
structure PassInput where
  rows     : Tab 12 ZoneRow
  recs     : Tab 12 ZoneRec
  p        : PlantTable
  engine   : Engine
  relief   : Tab 12 Int
  outdoor  : Option Int
  status   : Tab 12 ActStatus
  position : Tab 12 (Option Int)

/-- The zones, in number order. -/
abbrev zones12 : List (Fin 12) := List.finRange 12

namespace PassInput
variable (x : PassInput)

/-! Stage 1: zone demand. -/

/-- Enabled, voting and FRESH (R44). -/
def eligible (z : Fin 12) : Bool :=
  (x.rows.get z).enabled && (x.rows.get z).voting && (x.recs.get z).reading = .fresh

/-- The call side (R44). -/
def callSide (z : Fin 12) : Option Side :=
  let r := x.recs.get z
  if r.heat then some .heat else if r.cool then some .cool else if r.dry then some .cool else none

/-- Demand is formed for the zone: demand-eligible with a HEAT or COOL call (R44). -/
def formsDemand (z : Fin 12) : Bool := x.eligible z && ((x.recs.get z).heat || (x.recs.get z).cool)

/-- Dry demand is formed for the zone: demand-eligible with DRY and no HEAT (R44, R47). -/
def formsDry (z : Fin 12) : Bool := x.eligible z && (x.recs.get z).dry && !(x.recs.get z).heat

/-- The error on the side of the zone's call (R45). -/
def error (z : Fin 12) : Int :=
  let r := x.recs.get z
  if r.heat then r.shEff - r.temp else r.temp - r.scEff

/-- The accumulator after stage 1 (R45). -/
def acc (z : Fin 12) : Int :=
  let r := x.recs.get z
  if x.formsDemand z then clamp 0 1000 (r.acc + x.error z * x.p.kr) else r.acc

/-- The demand after stage 1 (R46). -/
def dem (z : Fin 12) : Int :=
  if x.formsDemand z then clamp 0 1000 (x.error z * 1000 / x.p.pb + x.acc z) else (x.recs.get z).dem

/-- The dry demand after stage 1 (R47). -/
def dryDem (z : Fin 12) : Int :=
  let r := x.recs.get z
  if x.formsDry z then clamp 0 1000 ((r.humidity.getD r.rhsEff - r.rhsEff) * 1000 / x.p.rhBand) else r.dryDem

/-! Stage 2: sums, the outdoor limits and aging. -/

def weight (z : Fin 12) : Int := (x.rows.get z).weight

/-- Demand-eligible and holding HEAT, COOL. -/
def heats (z : Fin 12) : Bool := x.eligible z && (x.recs.get z).heat
def cools (z : Fin 12) : Bool := x.eligible z && (x.recs.get z).cool

/-- The unaged sums (R48). -/
def hsum : Int := sumZones fun z => if x.heats z then x.weight z * x.dem z else 0
def csum : Int := sumZones fun z => if x.cools z then x.weight z * x.dem z else 0
def dsum : Int := sumZones fun z => if x.formsDry z then x.weight z * x.dryDem z else 0
def wtot : Int := sumZones fun z => if x.eligible z then x.weight z else 0
def wall : Int := sumZones fun z => if (x.rows.get z).enabled then x.weight z else 0

/-- HEAT is permitted (R49). -/
def heatPermitted : Bool :=
  match x.outdoor with
  | none => true
  | some t => t < x.p.theatMax

/-- COOL, and with it DRY, is permitted (R49). -/
def coolPermitted : Bool :=
  match x.outdoor with
  | none => true
  | some t => x.p.tcoolMin < t

def permitted : Side → Bool
  | .heat => x.heatPermitted
  | .cool => x.coolPermitted

/-- The sums with a blocked side at 0 (R49). -/
def hsumB : Int := if x.heatPermitted then x.hsum else 0
def csumB : Int := if x.coolPermitted then x.csum else 0
def dsumB : Int := if x.coolPermitted then x.dsum else 0

/-- SIDE_BLOCKED (R49). -/
def sideBlocked : Bool :=
  (!x.heatPermitted && x.hsum ≠ 0) || (!x.coolPermitted && x.csum + x.dsum ≠ 0)

/-- The weight in the vote, doubled at the starvation limit (R52). -/
def agedWeight (z : Fin 12) : Int :=
  if ((x.engine.starve.get z : Nat) : Int) ≥ x.p.starvationLimit then 2 * x.weight z else x.weight z

/-- The HEAT vote sum (R52). -/
def voteHeat : Int :=
  if x.heatPermitted then sumZones fun z => if x.heats z then x.agedWeight z * x.dem z else 0 else 0

/-- The COOL vote sum (R52). -/
def voteCool : Int :=
  if x.coolPermitted then
    (sumZones fun z => if x.cools z then x.agedWeight z * x.dem z else 0)
      + sumZones fun z => if x.formsDry z then x.agedWeight z * x.dryDem z else 0
  else 0

/-! Stage 3: the vote. -/

/-- The side entered from NONE (R53). -/
def fromNone : Option Side :=
  if x.voteCool = 0 ∧ x.voteHeat = 0 then none
  else if x.voteCool > x.voteHeat then some .cool
  else if x.voteHeat > x.voteCool then some .heat
  else match x.outdoor with
    | some t => if t < x.p.tieTemperature then some .heat else some .cool
    | none => some .cool

/-- A changeover away from the side is wanted (R54, R55). -/
def wanted : Side → Bool
  | .cool =>
    (x.voteHeat ≠ 0 && x.voteHeat ≥ x.voteCool + x.p.margin) || (x.csumB = 0 && x.dsumB = 0 && x.hsumB > 0)
  | .heat =>
    (x.voteCool ≠ 0 && x.voteCool ≥ x.voteHeat + x.p.margin) || (x.hsumB = 0 && (x.csumB > 0 || x.dsumB > 0))

/-- This pass changes the served side by a changeover (R54, R55, R56). -/
def changeover : Bool :=
  match x.engine.served with
  | none => false
  | some d => x.wanted d && !x.engine.lockout.isRunning

/-- CHANGEOVER_HELD (R54, R55). -/
def changeoverHeld : Bool :=
  match x.engine.served with
  | none => false
  | some d => x.wanted d && x.engine.lockout.isRunning

def otherSide : Side → Side
  | .cool => .heat
  | .heat => .cool

/-- The served side this pass settles (R53, R54, R55). -/
def served : Option Side :=
  match x.engine.served with
  | none => x.fromNone
  | some d => if x.changeover then some (otherSide d) else some d

/-- The pass enters a side, so the changeover lockout starts at its end (R56). -/
def entersSide : Bool := x.changeover || (x.engine.served.isNone && x.served.isSome)

/-- The side mode, `off` for none (R57). -/
def sideMode : Mode :=
  match x.served with
  | some .cool => if x.csumB > 0 then .cool else if x.dsumB > 0 then .dry else .off
  | some .heat => if x.hsumB > 0 then .heat else .off
  | none => .off

/-- The starvation minutes and the starving mark after the pass (R50). -/
def starvation (z : Fin 12) : Nat × Bool :=
  let kept := x.engine.starve.get z
  match x.callSide z with
  | none => (0, false)
  | some d =>
    if !(x.rows.get z).enabled then (0, false)
    else if !(x.rows.get z).voting then (0, false)
    else if x.served = some d then (0, false)
    else if x.eligible z && x.permitted d && x.served.isSome then (kept, true)
    else (kept, false)

/-! Stage 4: capacity. -/

/-- Q_raw (R58). -/
def qRaw : Int :=
  let sum := if x.sideMode = .heat then x.hsum else x.csum
  if x.wtot = 0 then 0 else sum / x.wtot

/-- The capacity of side mode COOL or HEAT before the low-capacity test (R59). -/
def qSlewed : Int :=
  if x.engine.prevQ = 0 ∨ x.changeover = true then clamp x.p.qmin 1000 (min x.qRaw (x.p.qmin + x.p.qslew))
  else clamp x.p.qmin 1000 (clamp (x.engine.prevQ - x.p.qslew) (x.engine.prevQ + x.p.qslew) x.qRaw)

/-- The low-capacity pass count after the pass (R60). -/
def lowCount : Nat :=
  if (x.sideMode = .cool ∨ x.sideMode = .heat) ∧ x.changeover = false then
    if x.qRaw < x.p.qstop then min 3 (x.engine.lowCount + 1) else 0
  else 0

/-- Dry-excluded at this pass (R61). -/
def dryExcluded (z : Fin 12) : Bool :=
  x.sideMode = .dry && x.formsDry z && (x.recs.get z).temp ≤ (x.recs.get z).shEff + x.p.dryExclusionMargin

/-- Every zone with dry demand is dry-excluded (R61). -/
def allExcluded : Bool := zones12.all fun z => !x.formsDry z || x.dryExcluded z

/-- The capacity of stage 4 (R58 to R61). -/
def q4 : Int :=
  match x.sideMode with
  | .cool | .heat => if x.lowCount = 3 then 0 else x.qSlewed
  | .dry => if x.allExcluded then 0 else max x.p.qdry x.p.qmin
  | .off | .fan => 0

/-- The mode of the result (R62). -/
def mode : Mode := if x.q4 > 0 then x.sideMode else if x.p.continuousFan then .fan else .off

/-! Stage 5: damper targets. -/

/-- Row 4 of R66: demand-eligible and holding the call of the served side. -/
def servedCall (z : Fin 12) : Bool :=
  match x.mode with
  | .cool => x.cools z
  | .heat => x.heats z
  | _ => false

/-- Row 5 of R66. -/
def servedDry (z : Fin 12) : Bool := x.mode = .dry && x.formsDry z && !x.dryExcluded z

/-- The zone's target falls to row 6 of R66. -/
def isRow6 (z : Fin 12) : Bool :=
  (x.rows.get z).enabled && (x.recs.get z).reading ≠ .stale && x.mode ≠ .fan && !x.servedCall z && !x.servedDry z

/-- The target of an enabled zone (R66, R67). -/
def target5 (z : Fin 12) : Int :=
  let pmin := (x.rows.get z).pmin
  if (x.recs.get z).reading = .stale then pmin
  else if x.mode = .fan then 100
  else if x.servedCall z then clamp pmin 100 (20 + x.dem z * 80 / 1000)
  else if x.servedDry z then x.p.pdry
  else pmin

/-! Stage 6: open capacity and relief. -/

/-- The zone's damper address lies outside the damper field (R68, R134). -/
def outsideField (z : Fin 12) : Bool :=
  (x.rows.get z).channel ≥ x.p.damperFieldLength || x.p.damperBase + (x.rows.get z).channel > 63

/-- The zone's counted position comes from one of the first three rows of R68. -/
def untrusted (z : Fin 12) : Bool :=
  x.outsideField z || x.status.get z = .unresponsive || x.status.get z = .stalled

/-- The counted position of an enabled zone whose target is `t` (R68, R69). -/
def counted (z : Fin 12) (t : Int) : Int :=
  if x.outsideField z then 0
  else if x.status.get z = .unresponsive then 0
  else if x.status.get z = .stalled then (x.position.get z).getD 0
  else t

/-- The open capacity (R70). -/
def openCapacity (targets : Tab 12 Int) : Int :=
  sumZones fun z => if (x.rows.get z).enabled then x.weight z * x.counted z (targets.get z) else 0

/-- The required open capacity (R70). -/
def aMin : Int := max x.p.aminPct x.p.fmin * x.wall

/-- The overshoot test excludes the zone (R74). -/
def overshoots (z : Fin 12) : Bool :=
  let r := x.recs.get z
  match x.served with
  | some .cool => r.temp ≤ r.scEff - x.p.reliefMargin
  | some .heat => r.temp ≥ r.shEff + x.p.reliefMargin
  | none => false

/-- What stage 6 has done so far: the targets, the zones raised in the order of their first raising, and whether forced
relief raised one (R76). -/
structure Relief where
  targets : Tab 12 Int
  used    : List (Fin 12)
  forced  : Bool

/-- Raises a zone's target; the zone is listed once (R76). -/
def Relief.raise (r : Relief) (z : Fin 12) (t : Int) (forced : Bool) : Relief :=
  ⟨r.targets.set z t, if z ∈ r.used then r.used else r.used ++ [z], r.forced || forced⟩

/-- The relief list: the non-zero rows in row order (R72). -/
def reliefList : List (Fin 12) := x.relief.data.filterMap fun v => zoneIx v.toNat

/-- One entry of the relief list visited while A is below Amin (R73). -/
def reliefStep (r : Relief) (z : Fin 12) : Relief :=
  let row := x.rows.get z
  if x.openCapacity r.targets < x.aMin ∧ row.enabled ∧ row.reliefEligible ∧ (x.recs.get z).reading = .fresh
      ∧ ¬ x.untrusted z ∧ r.targets.get z < row.reliefPosition ∧ ¬ x.overshoots z then
    r.raise z row.reliefPosition false
  else r

/-- A zone forced relief may take (R75). -/
def forcible (z : Fin 12) : Bool :=
  (x.rows.get z).enabled && !x.untrusted z && (x.recs.get z).reading ≠ .stale

/-- One zone of the first round of forced relief: not yet opened (R75). -/
def forcedFirst (r : Relief) (z : Fin 12) : Relief :=
  if x.openCapacity r.targets < x.aMin ∧ x.forcible z ∧ x.isRow6 z ∧ z ∉ r.used then r.raise z 100 true else r

/-- One zone of the second round of forced relief (R75). -/
def forcedSecond (r : Relief) (z : Fin 12) : Relief :=
  if x.openCapacity r.targets < x.aMin ∧ x.forcible z ∧ r.targets.get z < 100 then r.raise z 100 true else r

/-- The targets of stage 5, before relief. -/
def relief0 : Relief := ⟨Tab.ofFn x.target5, [], false⟩

/-- Relief is applied (R71). -/
def reliefApplies : Bool :=
  x.openCapacity x.relief0.targets < x.aMin && (x.q4 > 0 || x.mode = .fan)

/-- Stage 6 (R71, R73, R75). -/
def relief6 : Relief :=
  if x.reliefApplies then
    zones12.foldl x.forcedSecond (zones12.foldl x.forcedFirst (x.reliefList.foldl x.reliefStep x.relief0))
  else x.relief0

/-- The open capacity that stage 6 leaves. -/
def a6 : Int := x.openCapacity x.relief6.targets

/-- AIRFLOW_SHORT of stage 6 (R77). -/
def short6 : Bool := x.reliefApplies && x.a6 < x.aMin

/-! Stage 7: fan airflow. -/

/-- The base airflow (R78). -/
def baseF : Int :=
  match x.mode with
  | .cool | .heat => x.p.fmin + (x.q4 - x.p.qmin) * (100 - x.p.fmin) / (1000 - x.p.qmin)
  | .dry => x.p.fdry
  | .fan => x.p.fcirc
  | .off => 0

/-- The largest dry demand formed at this pass, 0 where none was (R79). -/
def ddMax : Int := zones12.foldl (fun m z => if x.formsDry z then max m (x.dryDem z) else m) 0

/-- The airflow after the latent boost (R79). -/
def boostedF : Int :=
  if x.mode = .cool then max x.p.fmin (x.baseF - x.p.lmax * x.ddMax / 1000) else x.baseF

/-- The airflow allowance (R80). -/
def fAllow : Int := if x.wall = 0 then 0 else x.a6 / x.wall

/-- The airflow after the allowance (R80). -/
def allowedF : Int := min x.boostedF x.fAllow

/-- Stage 7 stops the capacity (R81). -/
def airflowStop : Bool := x.q4 > 0 && x.allowedF < x.p.fmin

/-- The airflow of the result (R80, R81). -/
def f7 : Int :=
  if x.airflowStop then (if x.fAllow ≥ x.p.fcirc then x.fAllow else 0) else x.allowedF

/-! Stage 8: the airflow cap. -/

/-- The capacity of the result (R81, R82). -/
def q8 : Int :=
  if x.airflowStop then 0
  else if x.q4 = 0 then 0
  else min x.q4 (max x.p.qmin (10 * x.f7))

/-- The raised pass number (R42). -/
def number : Nat := (x.engine.passNumber + 1) % (Config.max32 + 1)

/-- The pass result (R43). -/
def result : PassResult where
  number := x.number
  mode := x.mode
  served := x.served
  q := x.q8
  f := x.f7
  targets := Tab.ofFn fun z => if (x.rows.get z).enabled then some (x.relief6.targets.get z) else none
  relief := x.relief6.used
  changeoverHeld := x.changeoverHeld
  sideBlocked := x.sideBlocked
  forcedRelief := x.relief6.forced
  airflowShort := x.short6 || x.airflowStop

/-- The engine after the pass but for the lockout and pass timers, which the part's clock starts (R41, R50, R63). -/
def engineAfter : Engine :=
  { x.engine with
    served := x.served
    prevQ := x.q8
    lowCount := x.lowCount
    passNumber := x.number
    starve := Tab.ofFn fun z => (x.starvation z).1
    mark := Tab.ofFn fun z => (x.starvation z).2
    latest := some x.result }

/-- A zone record with the values the pass produced for it (R10); a disabled zone's stands. -/
def recordAfter (z : Fin 12) : ZoneRec :=
  let r := x.recs.get z
  if (x.rows.get z).enabled then
    { r with
      acc := x.acc z, dem := x.dem z, dryDem := x.dryDem z, dryExcluded := x.dryExcluded z
      target := x.result.targets.get z }
  else r

end PassInput

end Sys2Proof.Machine
end

