-- ==== Sys2Proof/Machine/Sequencer.lean ====
section
/-! DEFINITION. The Plant Sequencer's shared operations (chapters 5 and 6): dispatching commands (R88, R89), the start
test and the start (R91, R94), running, stopping and changing side (R95 to R99), the capacity limit (R102), lockouts
(R104 to R108), defrost and recovery (R112 to R125), the valve's reports (R87), and taking a pass result (R90). -/

namespace Sys2Proof.Machine

/-- Changes the sequencer of the part. -/
def State.setSeq (s : State) (f : Sequencer → Sequencer) : State := { s with seq := f s.seq }

/-! Dispatching (R88, R89). -/

/-- A compressor stop begins a meter write when an hour has passed since the last, the pin is low and nothing is being
written (R193). -/
def State.beginMeterWrite (s : State) : State :=
  if s.store.saving = .idle ∧ s.store.wpHigh = false ∧ s.uptime - s.store.lastMeterWrite ≥ 60 then
    { s with store := { s.store with saving := .meterWrite s.meters8 } }
  else s

/-- A compressor start: min run starts and meter 1 counts (R89). -/
def State.noteStart (s : State) : State :=
  (s.setSeq fun q => { q with minRun := s.timer (secs s.tables.plant.minRun) }).count 1

/-- A compressor stop: min off and equalize start (R89). -/
def State.noteStop (s : State) : State :=
  s.setSeq fun q =>
    { q with minOff := s.timer (secs s.tables.plant.minOff), equalize := s.timer (secs s.tables.plant.equalize) }

/-- The timers of a compressor command of value `v`: a start, a stop, or neither (R89). -/
def State.noteCompressor (s : State) (v : Int) : State :=
  if s.seq.cmdQ = 0 ∧ v ≠ 0 then s.noteStart
  else if s.seq.cmdQ > 0 ∧ v = 0 then s.noteStop.beginMeterWrite
  else s

/-- Hands a command to the Actuator Queue (R88). -/
def State.enqueue (s : State) (a : Actuator) (v : Int) (o : Origin) : State := s.setQueue fun q => q.enqueue a v o

/-- Dispatches the compressor (R88, R89). -/
def State.dispatchCompressor (s : State) (v : Int) (o : Origin) : State :=
  ((s.noteCompressor v).setSeq fun q => { q with cmdQ := v }).enqueue .compressor v o

/-- Dispatches the fan. -/
def State.dispatchFan (s : State) (v : Int) (o : Origin) : State :=
  (s.setSeq fun q => { q with cmdF := v }).enqueue .fan v o

/-- Dispatches the valve: its direction is UNKNOWN until the command completes (R87). -/
def State.dispatchValve (s : State) (d : Side) : State :=
  (s.setSeq fun q => { q with valveDir := none, inFlight := some d }).enqueue .valve d.code .sequencer

/-- Dispatches the defrost control. -/
def State.dispatchDefrost (s : State) (v : Int) : State :=
  (s.setSeq fun q => { q with defrostCtl := v }).enqueue .defrost v .sequencer

/-- The defrost control sent to 0 where it stands at 1 (R125, R126). -/
def State.defrostOff (s : State) : State := if s.seq.defrostCtl = 1 then s.dispatchDefrost 0 else s

/-- Dispatches the result's damper target of one zone, unless the zone is disabled now (R7, R88). -/
def State.dispatchDamper (s : State) (r : PassResult) (z : Fin 12) : State :=
  match r.targets.get z with
  | some t => if (s.row z).enabled then s.enqueue (.damper z) t .pass else s
  | none => s

/-- Dispatches the result's damper targets in zone order (R88). -/
def State.dispatchDampers (s : State) (r : PassResult) : State := zones12.foldl (fun s z => s.dispatchDamper r z) s

/-- The compressor value formed from a result: Qmin under the coil freeze or min run hold (R88). -/
def State.compressorValue (s : State) (r : PassResult) : Int :=
  let p := s.tables.plant
  if s.seq.coilFreezeHold ∨ s.seq.minRunHold then p.qmin else clamp p.qmin 1000 (min r.q s.seq.capLimit)

/-- Its origin: PASS where it is formed from the result's Q (R88, log 12). -/
def State.compressorOrigin (s : State) : Origin :=
  if s.seq.coilFreezeHold ∨ s.seq.minRunHold then .sequencer else .pass

/-- Fan 0, or Fcirc under fan policy CONTINUOUS (R91, R98). -/
def State.waitingFan (s : State) : Int := if s.tables.plant.continuousFan then s.tables.plant.fcirc else 0

/-! Starting (R91 to R94). -/

/-- The valve direction matches the result's served side (R87). -/
def State.valveMatches (s : State) (r : PassResult) : Bool := r.served.isSome && s.seq.valveDir = r.served

/-- A result with Q 0 becomes the result in force of FAN_ONLY or IDLE, by its F (R92). -/
def State.rest (s : State) (r : PassResult) : State :=
  s.setSeq fun q => { q with inForce := some r, state := if r.f > 0 then .fanOnly else .idle }

/-- A result with Q 0 carried out (R92): the dampers and then the fan (R88). -/
def State.carryIdle (s : State) (r : PassResult) : State := ((s.rest r).dispatchDampers r).dispatchFan r.f .pass

/-- A result with Q 0 carried out within the event that stopped the compressor: the fan and then the dampers (R88, R92). -/
def State.carryIdleStopped (s : State) (r : PassResult) : State := ((s.rest r).dispatchFan r.f .pass).dispatchDampers r

/-- The sequencer's record at the start of a result (R94, R101). -/
def State.beginRun (s : State) (r : PassResult) : State :=
  let heating := r.served = some .heat
  s.setSeq fun q =>
    { q with
      inForce := some r, state := .run, runSide := r.served, minRunHold := false, coilFreezeHold := false
      coilFreeze := .stopped, coldDraftHold := heating
      coldDraft := if heating then s.timer (secs s.tables.plant.coldDraftHold) else .stopped }

/-- The fan and then the compressor of a start (R88, R94). -/
def State.startPlant (s : State) (r : PassResult) : State :=
  let s := if r.served = some .heat then s.dispatchFan 0 .sequencer else s.dispatchFan r.f .pass
  s.dispatchCompressor (s.compressorValue r) .pass

/-- The start of a result the start test approved (R94): the dampers, the fan, the compressor (R88). -/
def State.start (s : State) (r : PassResult) : State := ((s.beginRun r).dispatchDampers r).startPlant r

/-- The start test (R91): a start, or START_WAIT with or without a valve command. -/
def State.startTest (s : State) (r : PassResult) : State :=
  if s.valveMatches r then
    if s.seq.minOff.isRunning then s.setSeq fun q => { q with state := .startWait } else s.start r
  else
    let s := s.setSeq fun q => { q with state := .startWait }
    match r.served with
    | some d => if s.seq.inFlight.isNone ∧ ¬ s.seq.equalize.isRunning then s.dispatchValve d else s
    | none => s

/-- A result with Q > 0 has been taken, so no valve command has failed since (R93, log 31). -/
def State.clearFailure (s : State) : State := s.setSeq fun q => { q with valveFailed := false }

/-- A result taken in IDLE or FAN_ONLY (R91, R92): on entering START_WAIT the fan is commanded to 0 or Fcirc if it
differs. -/
def State.takeAsIdle (s : State) (r : PassResult) : State :=
  if r.q > 0 then
    let s := s.clearFailure.startTest r
    if s.seq.state = .startWait ∧ s.seq.cmdF ≠ s.waitingFan then s.dispatchFan s.waitingFan .sequencer else s
  else s.carryIdle r

/-- IDLE, taking the newest result as IDLE takes a result; fan 0 where there is none (R105). -/
def State.idleTakesNewest (s : State) : State :=
  let s := s.setSeq fun q => { q with state := .idle }
  match s.seq.newest with
  | some r => s.takeAsIdle r
  | none => s.dispatchFan 0 .sequencer

/-! Running, stopping and changing side (R95 to R99). -/

/-- The equalize time has run in EQUALIZE: the valve is sent to the pending result's side (R99). -/
def State.equalizeDone (s : State) : State :=
  let s := s.setSeq fun q => { q with state := .startWait }
  match s.seq.newest.bind PassResult.served with
  | some d => if s.seq.inFlight.isNone then s.dispatchValve d else s
  | none => s

/-- A result with Q > 0 taken at the end of the overrun (R98, R99): with the valve on its side the start test is applied at
once, and a start it makes hands the dampers over before the fan's two commands (R88, log 37); with the valve on the other side
the state is EQUALIZE. DESIGN CHOICE (log 13): the fan goes before the valve, where equalize has elapsed and the valve is sent
at once. -/
def State.takeAtOverrun (s : State) (r : PassResult) : State :=
  let s := s.clearFailure
  if s.valveMatches r ∧ ¬ s.seq.minOff.isRunning then
    (((s.beginRun r).dispatchDampers r).dispatchFan s.waitingFan .sequencer).startPlant r
  else
    let s := s.dispatchFan s.waitingFan .sequencer
    if s.valveMatches r then s.setSeq fun q => { q with state := .startWait }
    else
      let s := s.setSeq fun q => { q with state := .equalize }
      if s.seq.equalize.isRunning then s else s.equalizeDone

/-- The overrun has ended: the newest result is taken (R98, R99). -/
def State.overrunEnd (s : State) : State :=
  match s.seq.newest with
  | none => s.idleTakesNewest
  | some r => if r.q > 0 then s.takeAtOverrun r else s.carryIdle r

/-- The compressor has just been stopped with an overrun time of 0: the newest result is taken in the same event, whose
dampers come last (R88, R97, R98, log 37). -/
def State.endStopped (s : State) : State :=
  match s.seq.newest with
  | none => s.idleTakesNewest
  | some r => if r.q > 0 then s.takeAtOverrun r else s.carryIdleStopped r

/-- The holds inactive and their timers stopped, the run side absent (R97, R104, R114). -/
def Sequencer.endHolds (q : Sequencer) : Sequencer :=
  { q with
    minRunHold := false, coldDraftHold := false, coilFreezeHold := false
    minRun := .stopped, coldDraft := .stopped, coilFreeze := .stopped, runSide := none }

/-- A stop from RUN (R97). -/
def State.stopRun (s : State) : State :=
  let s := s.dispatchCompressor 0 .sequencer
  if s.tables.plant.overrun > 0 then
    (s.dispatchFan s.tables.plant.fmin .sequencer).setSeq fun q =>
      { q.endHolds with state := .overrun, overrun := s.timer (secs s.tables.plant.overrun) }
  else (s.setSeq Sequencer.endHolds).endStopped

/-- A result that does not continue the run: the min run hold, or the stop (R96). -/
def State.leaveRun (s : State) : State :=
  if s.seq.minRun.isRunning then
    let s := s.setSeq fun q => { q with minRunHold := true }
    if s.seq.cmdQ > s.tables.plant.qmin then s.dispatchCompressor s.tables.plant.qmin .sequencer else s
  else s.stopRun

/-- The capacity limit adjusted at a result taken in RUN (R102). -/
def State.adjustLimit (s : State) : State :=
  let p := s.tables.plant
  let up := min 1000 (s.seq.capLimit + 100)
  let limit :=
    match s.seq.runSide, s.indoorEntry with
    | some .heat, some d =>
      if d.supplyAir > p.supplyHighLimit then max p.qmin (s.seq.capLimit - 100)
      else if d.supplyAir < p.supplyHighLimit - 50 then up
      else s.seq.capLimit
    | _, _ => up
  s.setSeq fun q => { q with capLimit := limit }

/-- The fan command of a result carried out in RUN, withheld during the cold-draft hold (R95, R101). -/
def State.runFan (s : State) (r : PassResult) : State := if s.seq.coldDraftHold then s else s.dispatchFan r.f .pass

/-- A result with Q > 0 on the run side becomes the result in force, and the min run hold ends (R95). -/
def State.continueRun (s : State) (r : PassResult) : State :=
  s.setSeq fun q => { q with inForce := some r, minRunHold := false }

/-- The compressor and then the fan of a result carried out in RUN (R88, R95). -/
def State.runPlant (s : State) (r : PassResult) : State :=
  (s.dispatchCompressor (s.compressorValue r) s.compressorOrigin).runFan r

/-- A result with Q > 0 on the run side carried out (R95), in the order of R88. -/
def State.carryRun (s : State) (r : PassResult) : State :=
  let s := s.continueRun r
  let v := s.compressorValue r
  if v = s.tables.plant.qmin ∧ v < s.seq.cmdQ then
    (s.runPlant r).dispatchDampers r
  else ((s.dispatchDampers r).runFan r).dispatchCompressor v s.compressorOrigin

/-- The result continues the run. -/
def State.continuesRun (s : State) (r : PassResult) : Bool := r.q > 0 && r.served = s.seq.runSide

/-- A result taken in RUN (R95, R96, R102). -/
def State.takeInRun (s : State) (r : PassResult) : State :=
  let s := s.adjustLimit
  if s.continuesRun r then s.carryRun r else s.leaveRun

/-! Lockouts (R100, R104 to R107). -/

/-- The fan of LOCKOUT runs at Fmin (R100). -/
def Causes.fanRuns (cs : Causes) : Bool := cs.condensate || cs.coilFreeze

def State.lockoutFan (s : State) : Int := if s.seq.causes.fanRuns then s.tables.plant.fmin else 0

/-- The fault kind of a cause (R106). -/
def causeFault : LockoutCause → FaultKind
  | .outdoorFault => .outdoorFault
  | .condensate => .condensateHigh
  | .outdoorLost => .outdoorLost
  | .indoorLost => .indoorLost
  | .coilFreeze => .coilFreeze

/-- The board that is the subject of a cause's fault entry (R106, R201). -/
def State.causeSubject (s : State) : LockoutCause → Nat
  | .outdoorFault | .outdoorLost => s.outdoorAddress
  | _ => s.indoorAddress

/-- A cause joins the outstanding causes with its lockout-time timer, where it has one (R104, R106). -/
def Causes.add (cs : Causes) (t : Timer) : LockoutCause → Causes
  | .outdoorFault => { cs with outdoorFault := true, outdoorTimer := t }
  | .condensate => { cs with condensate := true, condTimer := t, condNormalSeen := false }
  | .outdoorLost => { cs with outdoorLost := true }
  | .indoorLost => { cs with indoorLost := true }
  | .coilFreeze => { cs with coilFreeze := true, freezeTimer := t }

/-- A cause leaves the outstanding causes. -/
def Causes.remove (cs : Causes) : LockoutCause → Causes
  | .outdoorFault => { cs with outdoorFault := false, outdoorTimer := .stopped }
  | .condensate => { cs with condensate := false, condTimer := .stopped, condNormalSeen := false }
  | .outdoorLost => { cs with outdoorLost := false }
  | .indoorLost => { cs with indoorLost := false }
  | .coilFreeze => { cs with coilFreeze := false, freezeTimer := .stopped }

/-- The lockout history takes the present minute, keeping the newest three (R107). -/
def pushHistory (h : List Nat) (m : Nat) : List Nat := (if h.length ≥ 3 then h.drop (h.length - 2) else h) ++ [m]

/-- Newest minute less oldest. -/
def historySpan (h : List Nat) : Nat := h.getLastD 0 - h.headD 0

/-- The entry into HARD_LOCKOUT (R107); both marks are clear at it (R104). -/
def State.hardLockout (s : State) : State :=
  ((s.setSeq fun q =>
      { q with state := .hardLockout, causes := .empty, displayed := none, condMark := false, faultMark := false }).dispatchFan
    0 .sequencer).fault .hardLockout 0 (historySpan s.seq.history)

/-- The history appended and tested (R107). -/
def State.noteHistory (s : State) : State :=
  let h := pushHistory s.seq.history s.uptime
  let s := s.setSeq fun q => { q with history := h }
  if h.length = 3 ∧ historySpan h ≤ 60 then s.hardLockout else s

/-- A cause met in HARD_LOCKOUT: its fault entry once for each appearance of its condition (R104). -/
def State.recordInHard (s : State) (c : LockoutCause) (detail : Int) : State :=
  match c with
  | .condensate =>
    if s.seq.condMark then s
    else (s.setSeq fun q => { q with condMark := true }).fault (causeFault c) (s.causeSubject c) detail
  | .outdoorFault =>
    if s.seq.faultMark then s
    else (s.setSeq fun q => { q with faultMark := true }).fault (causeFault c) (s.causeSubject c) detail
  | _ => s.fault (causeFault c) (s.causeSubject c) detail

/-- The compressor at 0 where it is above 0 (R104 step 1). -/
def State.stopForCause (s : State) : State := if s.seq.cmdQ > 0 then s.dispatchCompressor 0 .sequencer else s

/-- The sequencer is in DEFROST or RECOVERY. -/
def Sequencer.defrosting (q : Sequencer) : Bool := q.state = .defrost || q.state = .recovery

/-- A defrost or recovery cut short: the shadow and its result discarded, its timers stopped, the phase absent (R125,
R126). -/
def Sequencer.abortDefrost (q : Sequencer) : Sequencer :=
  if q.defrosting then
    { q with shadow := none, newest := none, pauseTimer := .stopped, maxTimer := .stopped, phase := none }
  else q

/-- Takes a cause that is not outstanding, in a state other than HARD_LOCKOUT (R104, R107, R125). -/
def State.enterLockout (s : State) (c : LockoutCause) (detail : Int) : State :=
  let was := s.seq.state
  let ran := s.seq.causes.fanRuns
  let s := s.stopForCause
  let s := s.setSeq fun q => { q.endHolds.abortDefrost with overrun := .stopped }
  let s := s.setSeq fun q =>
    { q with causes := q.causes.add (s.timer (secs s.tables.plant.lockoutTime)) c, displayed := some c }
  let s := s.defrostOff
  let s := s.setSeq fun q => { q with state := .lockout }
  let s := if was ≠ .lockout ∨ s.seq.causes.fanRuns ≠ ran then s.dispatchFan s.lockoutFan .sequencer else s
  let s := (s.fault (causeFault c) (s.causeSubject c) detail).count 7
  if c = .outdoorFault ∨ c = .coilFreeze then s.noteHistory else s

/-- Takes a lockout cause (R104). -/
def State.takeCause (s : State) (c : LockoutCause) (detail : Int) : State :=
  if s.seq.state = .hardLockout then s.recordInHard c detail
  else if s.seq.causes.has c then s
  else s.enterLockout c detail

/-- An outstanding cause ends; with the last one the lockout ends (R100, R105, R106). -/
def State.endCause (s : State) (c : LockoutCause) : State :=
  if s.seq.causes.has c then
    let ran := s.seq.causes.fanRuns
    let s := s.setSeq fun q => { q with causes := q.causes.remove c }
    if s.seq.causes.any then
      if s.seq.causes.fanRuns ≠ ran then s.dispatchFan s.lockoutFan .sequencer else s
    else (s.setSeq fun q => { q with displayed := none }).idleTakesNewest
  else s

/-! Defrost (R112, R114 to R121). -/

/-- A defrost is wanted (R112). -/
def State.defrostWanted (s : State) : Bool :=
  let p := s.tables.plant
  s.seq.state = .run && s.seq.runSide = some .heat &&
    ((s.seq.frostTime : Int) ≥ p.defrostInterval ||
      ((s.outdoorEntry.map OutdoorData.frostFlag).getD false && (s.seq.frostTime : Int) ≥ p.defrostMinimum))

/-- Enters DEFROST (R114). -/
def State.enterDefrost (s : State) : State :=
  let s := (s.dispatchCompressor 0 .sequencer).dispatchFan 0 .sequencer
  (s.setSeq fun q =>
    { q.endHolds with
      shadow := q.newest, state := .defrost, phase := some .pauseIn
      pauseTimer := s.timer (secs s.tables.plant.defrostPause) }).count 5

/-- The test for a wanted defrost (R112). -/
def State.testDefrost (s : State) : State :=
  if s.defrostWanted ∧ ¬ s.seq.minRun.isRunning then s.enterDefrost else s

/-- The melt starts (R117). -/
def State.startMelt (s : State) : State :=
  (s.dispatchCompressor s.tables.plant.qdef .sequencer).setSeq fun q =>
    { q with phase := some .melt, maxTimer := s.timer (mins s.tables.plant.defrostMax) }

/-- The ending of a defrost, complete or incomplete (R120). -/
def State.endMelt (s : State) : State :=
  let s := (s.dispatchCompressor 0 .sequencer).dispatchDefrost 0
  s.setSeq fun q =>
    { q with
      frostTime := 0, minRun := .stopped, maxTimer := .stopped, phase := some .pauseOut
      pauseTimer := s.timer (secs s.tables.plant.defrostPause) }

/-- A result on the HEAT side with Q > 0. -/
def wantsHeat (r : PassResult) : Bool := r.served = some .heat && r.q > 0

/-- Leaves DEFROST or RECOVERY for IDLE, the shadow emptied, taking the newest result as IDLE takes one (R121, R122). -/
def State.leaveForIdle (s : State) : State :=
  (s.setSeq fun q => { q with shadow := none, phase := none }).idleTakesNewest

/-- Ends the defrost by the content of the shadow (R121). -/
def State.endByShadow (s : State) : State :=
  if (s.seq.shadow.map wantsHeat).getD false then
    (s.dispatchValve .heat).setSeq fun q => { q with state := .recovery, phase := some .valveOut }
  else s.leaveForIdle

/-- The recovery start test (R122). -/
def State.recoveryTest (s : State) : State :=
  if s.seq.minOff.isRunning then s.setSeq fun q => { q with phase := some .startOut }
  else match s.seq.shadow with
    | some r =>
      if wantsHeat r then
        (s.dispatchCompressor (s.compressorValue r) .pass).setSeq fun q =>
          { q with
            phase := some .warming, coldDraftHold := true
            coldDraft := s.timer (secs s.tables.plant.coldDraftHold) }
      else s.leaveForIdle
    | none => s.leaveForIdle

/-- Recovery ends in RUN on the HEAT side, which takes the shadow's result (R123). DESIGN CHOICE (log 41): a result taken under
R96 sends no fan, which stays at the 0 of WARMING; R101 has the end of a cold-draft hold send the F of the result in force,
and R123, which lists what this end does, names no fan command. -/
def State.endRecovery (s : State) : State :=
  let held := s.seq.shadow
  let s := s.setSeq fun q =>
    { q with
      coldDraftHold := false, coldDraft := .stopped, shadow := none, phase := none, state := .run
      runSide := some .heat }
  match held with
  | some r => s.takeInRun r
  | none => s

/-- The cold-draft hold of RUN ends: the fan at the F of the result in force (R101). -/
def State.endColdDraft (s : State) : State :=
  let s := s.setSeq fun q => { q with coldDraftHold := false, coldDraft := .stopped }
  match s.seq.inForce with
  | some r => s.dispatchFan r.f .pass
  | none => s

/-! The valve's reports (R87, R93, R116, R122). -/

/-- A valve command has completed (R87). -/
def State.valveCompleted (s : State) (d : Side) : State :=
  let s := s.setSeq fun q => { q with valveDir := some d, inFlight := none }
  match s.seq.state, s.seq.phase with
  | .startWait, _ =>
    match s.seq.newest with
    | some r => s.startTest r
    | none => s
  | .defrost, some .valveIn =>
    if s.seq.minOff.isRunning then s.setSeq fun q => { q with phase := some .startIn } else s.startMelt
  | .recovery, some .valveOut => s.recoveryTest
  | _, _ => s

/-- A valve command has failed (R87). DESIGN CHOICE (log 45): where recovery ends so for START_WAIT, no fan is sent under
either fan policy (R86, R122). -/
def State.valveFailed (s : State) : State :=
  let s := s.setSeq fun q => { q with valveDir := none, inFlight := none, valveFailed := true }
  match s.seq.state, s.seq.phase with
  | .defrost, some .valveIn => (s.dispatchDefrost 0).endByShadow
  | .recovery, some .valveOut =>
    match s.seq.shadow with
    | some r =>
      let s := s.setSeq fun q => { q with shadow := none, phase := none, state := .startWait }
      if r.q > 0 then s else s.carryIdle r
    | none => s.leaveForIdle
  | _, _ => s

/-- A report of the Actuator Queue: the direction of a completed valve command, or `none` for a failed one. The reports
take no effect during STOPPING (R196). -/
def State.valveReport (s : State) (d : Option Side) : State :=
  if s.phase = .stopping then s
  else match d with
    | some d => s.valveCompleted d
    | none => s.valveFailed

/-! Taking a pass result (R90). -/

/-- A result as START_WAIT takes it (R93). -/
def State.takeInStartWait (s : State) (r : PassResult) : State := if r.q > 0 then s.startTest r else s.carryIdle r

/-- A result as EQUALIZE takes it (R99). -/
def State.takeInEqualize (s : State) (r : PassResult) : State :=
  if r.q > 0 then
    if s.valveMatches r then (s.setSeq fun q => { q with state := .startWait }).startTest r else s
  else s.carryIdle r

/-- A result as LOCKOUT takes it (R105). -/
def State.takeInLockout (s : State) (r : PassResult) : State :=
  if s.seq.cmdF > 0 then (s.setSeq fun q => { q with inForce := some r }).dispatchDampers r else s

/-- A result becomes the newest result; outside RUN the capacity limit rises by 100 (R90, R102). DESIGN CHOICE (log 19): it
rises before the start value that the same step may form from the result; R102 states no order there. -/
def State.noteNewest (s : State) (r : PassResult) : State :=
  s.setSeq fun q =>
    { q with
      newest := some r, valveFailed := false
      capLimit := if q.state = .run then q.capLimit else min 1000 (q.capLimit + 100) }

/-- Takes a pass result (R90). -/
def State.takeResult (s : State) (r : PassResult) : State :=
  let s := s.noteNewest r
  match s.seq.state with
  | .idle | .fanOnly => s.takeAsIdle r
  | .startWait => s.takeInStartWait r
  | .run => s.takeInRun r
  | .overrun => s
  | .equalize => s.takeInEqualize r
  | .defrost | .recovery => s.setSeq fun q => { q with shadow := some r }
  | .lockout => s.takeInLockout r
  | .hardLockout => s

/-! Ending the pass (R37, R63). -/

/-- What a pass reads of the part (R39). -/
def State.passInput (s : State) : PassInput where
  rows := s.tables.zone
  recs := s.zones
  p := s.tables.plant
  engine := s.engine
  relief := s.tables.relief
  outdoor := s.outdoorEntry.map OutdoorData.outdoorAir
  status := Tab.ofFn fun z => s.queue.status.get (Actuator.ix (.damper z))
  position := Tab.ofFn fun z => (s.damperEntry (s.damperAddress z)).map DamperData.position

/-- The pass period of the economy state (R31). -/
def State.passPeriod (s : State) : Nat :=
  secs (if s.economy = .active then s.tables.plant.passPeriod else s.tables.plant.quietPassPeriod)

/-- Runs one arbitration pass and ends it in one step (R37, R63): the engine and the zone records store what the pass
formed, the sequencer takes the result, and the pass timer starts. -/
def State.runPass (s : State) : State :=
  let x := s.passInput
  let s1 : State :=
    { s with
      engine :=
        { x.engineAfter with
          lockout := if x.entersSide then s.timer (mins s.tables.plant.changeoverLockout) else s.engine.lockout }
      zones := Tab.ofFn x.recordAfter }
  let s2 := s1.takeResult x.result
  { s2 with engine := { s2.engine with passTimer := s2.timer s2.passPeriod } }

end Sys2Proof.Machine
end

