-- ==== Sys2Proof/Machine/Broadcast.lean ====
section
/-! DEFINITION. The status broadcast (R158, R159, R185, R187) and what follows a change of zones: the quiet entry timer
and the wake (R32, R34, R35). -/

namespace Sys2Proof.Machine

/-! The broadcast (R159). -/

def PlantState.code : PlantState → Int
  | .idle => 0 | .fanOnly => 1 | .startWait => 2 | .run => 3 | .overrun => 4 | .equalize => 5 | .defrost => 6
  | .recovery => 7 | .lockout => 8 | .hardLockout => 9

/-- NONE or absent 0, COOL 1, HEAT 2 (R159, R177). -/
def sideCode : Option Side → Int
  | none => 0
  | some .cool => 1
  | some .heat => 2

def Mode.code : Mode → Int
  | .off => 0 | .fan => 1 | .cool => 2 | .heat => 3 | .dry => 4

def Reading.code : Reading → Int
  | .never => 0 | .fresh => 1 | .stale => 2

/-- HEAT bit 0, COOL bit 1, DRY bit 2 (R159, R176). -/
def ZoneRec.callBits (r : ZoneRec) : Int :=
  (if r.heat then 1 else 0) + (if r.cool then 2 else 0) + (if r.dry then 4 else 0)

/-- A damper target; 255 when absent (R159, R176). -/
def targetByte (t : Option Int) : Byte := byteOf (t.getD 255)

/-- The mode of the latest result, OFF with none (R159, R187). -/
def State.latestMode (s : State) : Mode := (s.engine.latest.map PassResult.mode).getD .off

def State.latestQ (s : State) : Int := (s.engine.latest.map PassResult.q).getD 0
def State.latestF (s : State) : Int := (s.engine.latest.map PassResult.f).getD 0

/-- The 42 bytes of the broadcast (R159). -/
def State.broadcastPayload (s : State) : List Byte :=
  [byteOf s.seq.state.code, byteOf (sideCode s.engine.served), byteOf s.latestMode.code]
  ++ bytes2 s.latestQ ++ [byteOf s.latestF]
  ++ zones12.flatMap fun z =>
      [byteOf (s.zone z).callBits, targetByte (s.zone z).target, byteOf (s.zone z).reading.code]

/-- Sends a broadcast to 127 with the broadcast count as its sequence; the count rises by 1 (R158). DESIGN CHOICE (log 43): its
source is the own room address as table 6 holds it, which after a write of that field is the new one at once. -/
def State.broadcast (s : State) : State :=
  let s1 := s.sendRoom ⟨Config.broadcastAddress, s.ownAddress, kindBroadcast, s.mgmt.count, s.broadcastPayload⟩
  { s1 with mgmt := { s1.mgmt with count := s1.mgmt.count + 1 } }

def State.setMgmt (s : State) (f : Management → Management) : State := { s with mgmt := f s.mgmt }

/-- The holdoff timer started with the holdoff then in force (R187). -/
def State.startHoldoff (s : State) : State :=
  s.setMgmt fun m => { m with holdoff := s.timer (secs s.tables.report.holdoff) }

/-- The changes of R187 between two moments: the plant state, the mode of the latest result, each zone's calls. -/
def changesBetween (s s' : State) : Nat :=
  (if s.seq.state = s'.seq.state then 0 else 1) + (if s.latestMode = s'.latestMode then 0 else 1)
  + (zones12.filter fun z => (s.zone z).callBits ≠ (s'.zone z).callBits).length

/-- Answers the changes a step has made since `before` (R187, log 8): in quiet reporting the first is sent at once where
the holdoff is stopped, and every other sets the pending mark. Nothing is broadcast in STOPPING or LOADING (R188). -/
def State.answerChanges (before s : State) : State :=
  let n := changesBetween before s
  if s.phase = .running ∧ s.tables.report.onChange = true ∧ n > 0 then
    if s.mgmt.holdoff.isRunning then s.setMgmt fun m => { m with pending := true }
    else
      let s := s.broadcast.startHoldoff
      if n > 1 then s.setMgmt fun m => { m with pending := true } else s
  else s

/-! The quiet entry timer and the wake. -/

/-- The poll period of the economy state (R31). -/
def State.pollPeriod (s : State) : Nat :=
  secs (if s.economy = .active then s.tables.plant.pollInterval else s.tables.plant.quietPollInterval)

def State.setPort (s : State) (f : PlantPort → PlantPort) : State := { s with port := f s.port }

/-- The turn of a target comes: its poll is due at `addr`; its missed-poll count is 0 where that address has changed
(R146, R147, R151). -/
def State.setTurn (s : State) (t : Fin 14) (addr : Nat) (polled : List Nat) : State :=
  s.setPort fun p =>
    { p with
      round := some ⟨t, addr, polled⟩
      missed := if p.lastAddr.get t = some addr then p.missed else p.missed.set t 0
      lastAddr := p.lastAddr.set t (some addr) }

/-- A round begins with the indoor board; the next is made due one period after this start (R146). -/
def State.startRound (s : State) : State :=
  (s.setPort fun p => { p with roundTimer := s.timer s.pollPeriod, roundWaiting := false }).setTurn 0 s.indoorAddress []

/-- A round has become due: it begins, or waits for the round in progress (R146). -/
def State.roundDue (s : State) : State :=
  if s.port.round.isSome then s.setPort fun p => { p with roundTimer := .stopped, roundWaiting := true } else s.startRound

/-- The quiet entry timer started with the quiet entry time then in force (R32). -/
def State.startQuietTimer (s : State) : State :=
  { s with quietTimer := s.timer (mins s.tables.plant.quietEntryTime) }

/-- A wake (R34): ACTIVE, one pass at once, a poll round due at once, and the quiet entry timer anew where the quiet
condition still holds. -/
def State.wake (s : State) : State :=
  let s := ({ s with economy := .active } : State).runPass.roundDue
  if s.quietCondition then s.startQuietTimer else { s with quietTimer := .stopped }

/-- The quiet entry timer while ACTIVE, after a step that began in `before`: started when the quiet condition has become
true or a taken request finds it true, cancelled when it is false (R32). -/
def State.keepQuietTimer (before : State) (taken : Bool) (s : State) : State :=
  if s.quietCondition then
    if taken || !before.quietCondition then s.startQuietTimer else s
  else { s with quietTimer := .stopped }

/-- What follows the zone changes of one event that began in `before`; `taken`: it is a taken SET_ZONE or WRITE_FIELD
(R32, R34, R35). Only a running part starts or stops the timer or wakes. -/
def State.afterZones (before : State) (taken : Bool) (s : State) : State :=
  if s.phase = .running then
    match s.economy with
    | .quiet => if taken || callLatched before s then s.wake else s
    | .active => State.keepQuietTimer before taken s
  else s

end Sys2Proof.Machine
end

