-- ==== Sys2Proof/Machine/PlantBusOps.lean ====
section
/-! DEFINITION. The Plant Port's shared operations (7.3, 7.4): poll turns (R146), missed polls and lost boards (R147),
filing a reply and handing it to the Actuator Queue and then to the Plant Sequencer (R148), the judgements of R139 to
R142, the end of an unanswered exchange (R138, R145), and the slot arbiter (R144). -/

namespace Sys2Proof.Machine

/-! Poll rounds. -/

/-- The zone whose damper is poll target 2..13. -/
def targetZone (t : Fin 14) : Option (Fin 12) := if h : 2 ≤ t.val then some ⟨t.val - 2, by omega⟩ else none

/-- The address a target is polled at when its turn comes, `none` where it is passed over (R146). -/
def State.turnAddress (s : State) (t : Fin 14) : Option Nat :=
  match targetZone t with
  | none => some (if t = 0 then s.indoorAddress else s.outdoorAddress)
  | some z =>
    match s.queue.inFlight (.damper z) with
    | some e => e.addr
    | none => if (s.row z).enabled ∧ ¬ s.outsideField z then some (s.damperAddress z) else none

/-- The first of the targets that is not passed over, with its address. -/
def State.nextTurn (s : State) : List (Fin 14) → Option (Fin 14 × Nat)
  | [] => none
  | t :: ts =>
    match s.turnAddress t with
    | some a => some (t, a)
    | none => s.nextTurn ts

/-- A round ends: the damper entries of addresses not polled in it leave the cache, and a round that waited begins
(R146, R148). -/
def State.endRound (s : State) (polled : List Nat) : State :=
  let s := s.setPort fun p =>
    { p with round := none, cache := p.cache.filter fun e => e.body.damper?.isNone || polled.contains e.addr }
  if s.port.roundWaiting then s.startRound else s

/-- The turn passes to the next target of the round, or the round ends (R146). -/
def State.passTurn (s : State) : State :=
  match s.port.round with
  | none => s
  | some r =>
    let polled := r.addr :: r.polled
    match s.nextTurn ((List.finRange 14).filter fun t => r.target < t) with
    | some (t, a) => s.setTurn t a polled
    | none => s.endRound polled

/-! Judging commands against poll replies (R139 to R142). -/

/-- Within three of the value (R139). -/
def nearPosition (value position : Int) : Bool := value - 3 ≤ position && position ≤ value + 3

/-- Within 50 of the value (R140). -/
def nearCapacity (value capacity : Int) : Bool := value - 50 ≤ capacity && capacity ≤ value + 50

/-- The damper reply meets the completion criterion of a value (R128). -/
def DamperData.meets (d : DamperData) (value : Int) : Bool := d.shown = .idle && nearPosition value d.position

/-- The outdoor reply meets the compressor's criterion (R128). -/
def OutdoorData.meetsCapacity (d : OutdoorData) (value : Int) : Bool := nearCapacity value d.actualCapacity

/-- The outdoor reply meets the valve's criterion (R128). -/
def OutdoorData.meetsValve (d : OutdoorData) (value : Int) : Bool := d.valve.code = value

/-- The actuator becomes STALLED: its entry leaves, and the fault entry is recorded where the status changes (R139). -/
def State.stall (s : State) (a : Actuator) (detail : Int) : State :=
  (s.setQueue fun q => q.removeInFlight a).fail a .stalled .actuatorStalled detail

/-- A STALLED actuator with no entry in flight whose last issued value meets the criterion is READY again (R142). -/
def Queue.recover (q : Queue) (a : Actuator) (meets : Int → Bool) : Queue :=
  if q.status.get a.ix = .stalled ∧ ((q.lastIssued.get a.ix).map meets).getD false then
    { q with status := q.status.set a.ix .ready }
  else q

/-- A damper poll reply from `addr` judged for the actuator of zone `z`, whose node it is (R139, R142). -/
def State.judgeDamper (s : State) (addr : Nat) (d : DamperData) (z : Fin 12) : State :=
  let a : Actuator := .damper z
  match s.queue.inFlight a with
  | some e =>
    if e.addr = some addr then
      let s := s.setQueue fun q => q.answered a
      if e.st = .moving then
        if d.meets e.value then s.setQueue fun q => q.complete a e.value
        else if d.shown = .moving then s
        else s.stall a d.position
      else s
    else s
  | none =>
    if s.damperAddress z = addr then
      let s := s.setQueue fun q => q.answered a
      if d.shown = .jammed then s.fail a .stalled .actuatorStalled d.position
      else s.setQueue fun q => q.recover a d.meets
    else s

/-- The damper of zone `z` stands at a plant address: that of its entry in flight, or else the one its row gives (R134,
R142, log 21). -/
def State.damperAt (s : State) (addr : Nat) (z : Fin 12) : Bool :=
  match s.queue.inFlight (.damper z) with
  | some e => e.addr = some addr
  | none => s.damperAddress z = addr

/-- A board's poll reply filed from `addr` answers every damper that stands at the address too, since any poll reply filed
from a damper's address does (R134, R142). It judges none: the criteria of R139 and R142 read a damper poll reply. -/
def State.answerDampers (s : State) (addr : Nat) : State :=
  s.setQueue fun q => (zones12.filter (s.damperAt addr)).foldl (fun q z => q.answered (.damper z)) q

/-- An outdoor poll reply judged for the compressor or the valve (R140, R141, R142). -/
def State.judgeOutdoor (s : State) (a : Actuator) (meets : Int → Bool) : State :=
  let s := s.setQueue fun q => q.answered a
  match s.queue.inFlight a with
  | some e => if e.st = .moving ∧ meets e.value = true then s.setQueue fun q => q.complete a e.value else s
  | none => s.setQueue fun q => q.recover a meets

/-- The direction of a valve value (R160). -/
def sideOfCode (v : Int) : Side := if v = 1 then .heat else .cool

/-- The direction of the MOVING valve entry that the reply completes (R141). -/
def State.valveDone (s : State) (d : OutdoorData) : Option Side :=
  match s.queue.inFlight .valve with
  | some e => if e.st = .moving ∧ d.meetsValve e.value = true then some (sideOfCode e.value) else none
  | none => none

/-! What the sequencer does with a filed reply (R101, R103, R106, R112, R119, R123). -/

/-- CONDENSATE at an indoor reply (R104, R106). -/
def State.examineFloat (s : State) (d : IndoorData) : State :=
  if d.floatHigh then
    if s.seq.causes.condensate then
      s.setSeq fun q => { q with causes := { q.causes with condNormalSeen := false } }
    else s.takeCause .condensate 0
  else
    let s := s.setSeq fun q => { q with condMark := false }
    if s.seq.causes.condensate then
      let s := s.setSeq fun q => { q with causes := { q.causes with condNormalSeen := true } }
      if s.seq.causes.condTimer.isRunning then s else s.endCause .condensate
    else s

/-- The cold-draft hold and the end of recovery at an indoor reply (R101, R123). -/
def State.examineWarm (s : State) (d : IndoorData) : State :=
  if d.coil ≥ s.tables.plant.coldDraftCoil then
    if s.seq.state = .run ∧ s.seq.coldDraftHold = true then s.endColdDraft
    else if s.seq.state = .recovery ∧ s.seq.phase = some .warming then s.endRecovery
    else s
  else s

/-- The coil freeze hold at an indoor reply (R103). -/
def State.examineFreeze (s : State) (d : IndoorData) : State :=
  if s.seq.state = .run ∧ s.seq.runSide = some .cool then
    if d.coil < s.tables.plant.coilFreezeLimit then
      if s.seq.coilFreezeHold then s
      else
        let s := s.setSeq fun q => { q with coilFreezeHold := true, coilFreeze := s.timer 300000 }
        if s.seq.cmdQ > s.tables.plant.qmin then s.dispatchCompressor s.tables.plant.qmin .sequencer else s
    else s.setSeq fun q => { q with coilFreezeHold := false, coilFreeze := .stopped }
  else s

/-- The sequencer examines an indoor reply: a lost board's cause first, then the contents (R106). -/
def State.sequencerIndoor (s : State) (d : IndoorData) : State :=
  let s := s.setSeq fun q => { q with indoorCoil := d.coil }
  ((((s.endCause .indoorLost).examineFloat d).examineWarm d)).examineFreeze d

/-- OUTDOOR_FAULT at an outdoor reply (R104, R106). -/
def State.examineFault (s : State) (d : OutdoorData) : State :=
  if d.faultCode = 0 then s.setSeq fun q => { q with faultMark := false } else s.takeCause .outdoorFault d.faultCode

/-- The end of the melt at an outdoor reply (R119). -/
def State.examineMelt (s : State) (d : OutdoorData) : State :=
  if s.seq.phase = some .melt ∧ d.faultCode = 0 ∧ d.coil ≥ s.tables.plant.defrostEndCoil then
    (s.setSeq fun q => { q with incomplete := 0 }).endMelt
  else s

/-- The sequencer examines an outdoor reply: the lost board's cause, the fault code, the melt and the wanted defrost are events
in turn, each with its own commands (R106, R112, R119; log 37). -/
def State.sequencerOutdoor (s : State) (d : OutdoorData) : State :=
  ((((s.endCause .outdoorLost).examineFault d).examineMelt d)).testDefrost

/-! Filing (R148). -/

/-- Two entries of the same board (indoor or outdoor); a new one replaces the old wherever it stood (log 16). -/
def CacheBody.sameBoard : CacheBody → CacheBody → Bool
  | .indoor _, .indoor _ => true
  | .outdoor _, .outdoor _ => true
  | _, _ => false

/-- The reply replaces the whole entry of its address. -/
def State.putCache (s : State) (addr : Nat) (b : CacheBody) : State :=
  s.setPort fun p =>
    { p with
      cache := (p.cache.filter fun e => !(e.addr = addr || e.body.sameBoard b)) ++ [⟨addr, s.clock / 1000, b⟩] }

/-- The Plant Port's part of filing: the exchange ends, the entry is replaced, the target's count is 0 and its board is
no longer lost (R147, R148). -/
def State.fileReply (s : State) (t : Fin 14) (addr : Nat) (b : CacheBody) : State :=
  let s := s.setPort fun p =>
    { p with
      exchange := none, missed := p.missed.set t 0
      lostIndoor := p.lostIndoor && decide (t ≠ 0), lostOutdoor := p.lostOutdoor && decide (t ≠ 1) }
  s.putCache addr b

/-- An indoor poll reply filed (R142, R148). DESIGN CHOICE (log 44): of the boards' actuators it answers the fan alone, even
where another board has the same address. -/
def State.fileIndoor (s : State) (t : Fin 14) (addr : Nat) (d : IndoorData) : State :=
  let s := ((s.fileReply t addr (.indoor d)).setQueue fun q => q.answered .fan).answerDampers addr
  let s := if s.phase = .stopping then s else s.sequencerIndoor d
  s.passTurn

/-- An outdoor poll reply filed: the queue judges and reports the valve before the sequencer examines it (R148). DESIGN CHOICE
(log 44): it answers no fan, even where the indoor board has the same address. -/
def State.fileOutdoor (s : State) (t : Fin 14) (addr : Nat) (d : OutdoorData) : State :=
  let s := s.fileReply t addr (.outdoor d)
  let done := s.valveDone d
  let s := (((s.judgeOutdoor .compressor d.meetsCapacity).judgeOutdoor .valve d.meetsValve).setQueue fun q =>
    q.answered .defrost).answerDampers addr
  let s := if done.isSome then s.valveReport done else s
  let s := if s.phase = .stopping then s else s.sequencerOutdoor d
  s.passTurn

/-- A damper poll reply filed (R139, R142, R148). DESIGN CHOICE (log 38): zones that share the address are judged in zone
order, and so record their ACTUATOR_STALLED entries in it (R139, R201 state no order). DESIGN CHOICE (log 44): it answers no
actuator of a board that has the same address. -/
def State.fileDamper (s : State) (t : Fin 14) (addr : Nat) (d : DamperData) : State :=
  let s := s.fileReply t addr (.damper d)
  (zones12.foldl (fun s z => s.judgeDamper addr d z) s).passTurn

/-! Missed polls (R147). -/

/-- A target has missed a third poll in a row (R147): the board is lost, or the damper UNRESPONSIVE. A lockout cause is
taken but in STOPPING (R196). -/
def State.targetLost (s : State) (t : Fin 14) : State :=
  match targetZone t with
  | some z => s.fail (.damper z) .unresponsive .actuatorUnresponsive 0
  | none =>
    let s := s.setPort fun p =>
      if t = 0 then { p with lostIndoor := true } else { p with lostOutdoor := true }
    if s.phase = .stopping then s
    else s.takeCause (if t = 0 then .indoorLost else .outdoorLost) 0

/-- An unanswered poll (R147). -/
def State.pollMissed (s : State) (t : Fin 14) : State :=
  let n := s.port.missed.get t
  let s := s.setPort fun p => { p with exchange := none, missed := p.missed.set t (min 3 (n + 1)) }
  (if n = 2 then s.targetLost t else s).passTurn

/-! Unanswered commands and forwarded frames (R138, R145, R168). -/

/-- Retries exhausted: the entry leaves, the status becomes UNRESPONSIVE, a valve failure is reported (R138). -/
def State.exhausted (s : State) (e : Entry) : State :=
  let s := (s.setQueue fun q => q.removeInFlight e.act).fail e.act .unresponsive .actuatorUnresponsive e.value
  if e.act = .valve then s.valveReport none else s

/-- An unanswered exchange of a command: a retransmission becomes due, or the retries are exhausted (R138). -/
def State.commandUnanswered (s : State) (a : Actuator) : State :=
  let s := s.setPort fun p => { p with exchange := none }
  match s.queue.inFlight a with
  | some e =>
    if (e.retries : Int) < s.tables.plant.retryLimit then s.setPort fun p => { p with retx := some (.command a) }
    else s.exhausted e
  | none => s

/-- The outcome of a forwarded frame reaches its held-reply slot: READY with its discard timer, discarded where a warm
restart has emptied the slot (R168). -/
def State.outcome (s : State) (slot : Fin 4) (o : Option (Byte × List Byte)) : State :=
  match s.room.slots.get slot with
  | .pending r p k q _ =>
    { s with
      room := { s.room with
        slots := s.room.slots.set slot (.ready r p k q o (s.timer (secs s.tables.report.holdoff))) } }
  | _ => s

/-- An unanswered forwarded frame: one retransmission, then NO_ANSWER (R145). -/
def State.forwardUnanswered (s : State) (x : Exchange) (slot : Fin 4) (kind : Byte) (payload : List Byte)
    (retried : Bool) : State :=
  let s := s.setPort fun p => { p with exchange := none }
  if retried then s.outcome slot none
  else s.setPort fun p => { p with retx := some (.forward slot x.addr x.seq kind payload) }

/-! The slot arbiter (R144). -/

/-- The arbiter remembers its last three grants (R144). -/
def State.remember (s : State) (poll : Bool) : State := s.setPort fun p => { p with grants := (poll :: p.grants).take 3 }

/-- The next value of the plant sequence count (R135, log 10). -/
def State.nextSeq (s : State) : Byte × State := (s.port.seqCount, s.setPort fun p => { p with seqCount := p.seqCount + 1 })

/-- Sends the frame of the actuator's ISSUED entry. -/
def State.sendEntry (s : State) (e : Entry) (addr : Nat) (seq : Byte) : State :=
  s.sendPlant (.command e.act) addr seq e.act.kind (e.act.payload e.value)

/-- A due retransmission is sent (R138, R145). -/
def State.grantRetx (s : State) (r : Retransmission) : State :=
  let s := (s.setPort fun p => { p with retx := none }).remember false
  match r with
  | .command a =>
    let s := s.setQueue fun q => q.updInFlight a fun e => { e with retries := e.retries + 1 }
    match s.queue.inFlight a with
    | some e => s.sendEntry e (e.addr.getD 0) (e.seq.getD 0)
    | none => s
  | .forward slot addr seq kind payload => s.sendPlant (.forward slot kind payload true) addr seq kind payload

/-- The due poll is sent (R147). -/
def State.grantPoll (s : State) (r : Round) : State :=
  let n := (s.remember true).nextSeq
  n.2.sendPlant (.poll r.target) r.addr n.1 kindPoll []

/-- An issuable entry is issued: reserved, addressed, sequenced and sent (R133). -/
def State.issue (s : State) (e : Entry) : State :=
  let addr := s.commandAddress e.act
  let n := (s.remember false).nextSeq
  let s := n.2.setQueue fun q =>
    { q with
      entries := q.entries.map fun w =>
        if w.act = e.act ∧ w.st = .waiting then { w with st := .issued, addr := some addr, seq := some n.1 } else w
      lastIssued := q.lastIssued.set e.act.ix (some e.value) }
  s.sendEntry e addr n.1

/-- An entry granted a slot with an address outside the damper field is removed unsent (R134). -/
def State.dropUnaddressable (s : State) (e : Entry) : State :=
  (s.setQueue fun q => q.removeWaiting e.act).fail e.act .outOfField .addressRange (s.commandAddress e.act)

/-- The oldest issuable entry is issued; those with an address outside the field are removed on the way. The second part
says whether a frame was sent (R133, R134, R144). -/
def State.grantCommand (s : State) : List Entry → State × Bool
  | [] => (s, false)
  | e :: es =>
    if e.st = .waiting ∧ ¬ s.queue.reserved e.act then
      if s.unaddressable e.act then (s.dropUnaddressable e).grantCommand es else (s.issue e, true)
    else s.grantCommand es

/-- The oldest frame of the pass-through queue is sent and leaves it (R145, R166). -/
def State.grantForward (s : State) (slot : Fin 4) (rest : List (Fin 4)) : State :=
  let s : State := { s with room := { s.room with passThrough := rest } }
  match s.room.slots.get slot with
  | .pending r p k q payload =>
    let n := (s.remember false).nextSeq
    let s : State := { n.2 with room := { n.2.room with slots := n.2.room.slots.set slot (.pending r p k q none) } }
    s.sendPlant (.forward slot k (payload.getD []) false) (p.toNat - 64) n.1 k (payload.getD [])
  | _ => s

/-- None of the three slots last granted carried a poll (R144). -/
def PlantPort.pollOwed (p : PlantPort) : Bool := !p.grants.any id

/-- A free slot granted to the first candidate (R144). -/
def State.grant (s : State) : State :=
  match s.port.retx, s.port.round with
  | some r, _ => s.grantRetx r
  | none, some r =>
    if s.port.pollOwed then s.grantPoll r
    else
      let c := s.grantCommand s.queue.entries
      if c.2 then c.1
      else match c.1.room.passThrough with
        | slot :: rest => c.1.grantForward slot rest
        | [] => c.1.grantPoll r
  | none, none =>
    let c := s.grantCommand s.queue.entries
    if c.2 then c.1
    else match c.1.room.passThrough with
      | slot :: rest => c.1.grantForward slot rest
      | [] => c.1

end Sys2Proof.Machine
end

