-- ==== Sys2Proof/Machine/Restart.lean ====
section
/-! DEFINITION. The resets: the values every block takes at power-on and at the end of a warm restart's controlled stop
(R194, R197), the start of that stop (R196, R126, R170), its end (R150, R197), and the end of loading (R195). -/

namespace Sys2Proof.Machine

/-! The reset values. -/

/-- The sequencer's reset values, with min off and equalize counted from `since` with the loaded periods (R89, R109,
R113). -/
def Sequencer.resetSince (since : Nat) (p : PlantTable) : Sequencer :=
  { Sequencer.reset with minOff := .running (since + secs p.minOff), equalize := .running (since + secs p.equalize) }

/-- Every block at the reset values of R194 with the tables `T` loaded, in LOADING; `skipped` records were skipped. What
a warm restart keeps is left as it stands (R197). -/
def State.resetBlocks (s : State) (T : Tables) (skipped : Nat) : State :=
  { s with
    phase := .loading
    tables := T
    zones := T.zone.map ZoneRec.reset
    economy := .active
    quietTimer := .stopped
    engine := Engine.reset
    seq := Sequencer.resetSince s.resetAt T.plant
    queue := Queue.reset
    port := PlantPort.reset
    room := RoomPort.reset
    mgmt := Management.reset
    store := { s.store with skipped := skipped } }

/-! The controlled stop (R196, R197). -/

/-- The compressor's stop within the controlled stop: no meter write follows it (R193, R196). -/
def State.stopForRestart (s : State) : State :=
  let s := if s.seq.cmdQ > 0 then s.noteStop else s
  (s.setSeq fun q => { q with cmdQ := 0 }).enqueue .compressor 0 .sequencer

/-- STOPPING begins (R196): the timers stop, the slots empty, the part is ACTIVE, and the compressor, the fan and a
defrost control standing at 1 are sent to 0; a defrost is left for IDLE (R126). -/
def State.beginRestart (s : State) : State :=
  let s : State :=
    { s with
      phase := .stopping
      resetAt := s.clock
      economy := .active
      quietTimer := .stopped
      engine := { s.engine with passTimer := .stopped }
      mgmt := { s.mgmt with period := .stopped, holdoff := .stopped, pending := false }
      room := RoomPort.reset }
  let s := ((s.stopForRestart).dispatchFan 0 .sequencer).defrostOff
  s.setSeq fun q =>
    if q.defrosting then { q.abortDefrost with state := .idle, coldDraftHold := false, coldDraft := .stopped } else q

/-- No entry of the compressor or the fan is left: the commands of the controlled stop have completed or failed (R196). -/
def Queue.stopDone (q : Queue) : Bool := q.entries.all fun e => e.act ≠ .compressor && e.act ≠ .fan

/-- The end of STOPPING (R150, R197): the queue is cleared, the blocks take their reset values but for what R197 keeps,
the tables are reloaded, and a slot in progress runs on for the replies it awaits, with its outcome discarded. -/
def State.endStopping (s : State) : State :=
  let loaded := loadTables s.store
  let t := s.resetBlocks loaded.1 loaded.2
  { t with
    seq :=
      { t.seq with
        state := if s.seq.state = .hardLockout then .hardLockout else .idle
        history := s.seq.history }
    port := { t.port with exchange := s.port.exchange.map fun x => { x with what := .orphan x.what.awaited } } }

/-- STOPPING ends where its commands have completed or failed. -/
def State.finishStopping (s : State) : State :=
  if s.phase = .stopping ∧ s.queue.stopDone = true then s.endStopping else s

/-! Power-on (R194) and the end of loading (R195). -/

/-- Power-on. `pages` pages of what was being written had been completed when power was lost (R192). -/
def State.powerOn (s : State) (pages : Nat) (answers wp : Bool) : State :=
  let store : StoreLoader := ⟨s.cellsAfterPages pages, answers, wp, .idle, 0, 0⟩
  let loaded := loadTables store
  let s : State := { s with clock := 0, resetAt := 0, uptime := 0, store := store, region := none, faults := [] }
  let s := s.resetBlocks loaded.1 loaded.2
  { s with meters := Tab.ofFn fun m => (storedMeters store).getD m 0 }

/-- A timer whose period has already passed is elapsed (R89). -/
def Timer.settle (t : Timer) (now : Nat) : Timer :=
  match t with
  | .stopped => .stopped
  | .running due => if due ≤ now then .stopped else .running due

/-- The one STORE_RECORD_SKIPPED entry of a load that skipped records (R190). -/
def State.noteSkipped (s : State) : State :=
  if s.store.skipped > 0 then s.fault .storeRecordSkipped 0 s.store.skipped else s

/-- The broadcast at the end of loading and the timer of the reporting mode (R186). -/
def State.firstBroadcast (s : State) : State :=
  let s := s.broadcast
  if s.tables.report.onChange then s.startHoldoff
  else s.setMgmt fun m => { m with period := s.timer (secs s.tables.report.period) }

/-- The end of loading (R195). -/
def State.endLoading (s : State) : State :=
  let s := s.noteSkipped
  let s : State := { s with phase := .running, zones := s.tables.zone.map ZoneRec.reset }
  let s := if s.quietCondition then s.startQuietTimer else s
  let s : State := { s with engine := { s.engine with passTimer := s.timer s.passPeriod } }
  let s := s.setSeq fun q => { q with minOff := q.minOff.settle s.clock, equalize := q.equalize.settle s.clock }
  s.startRound.firstBroadcast

end Sys2Proof.Machine
end

