-- ==== Sys2Proof/Machine/Clock.lean ====
section
/-! DEFINITION. The whole minute of uptime (R199): the uptime counter, the minute meters, the frost time (R111), the
starvation minutes (R51), and the test for a wanted defrost (R112). -/

namespace Sys2Proof.Machine

/-- The minute meter counts this minute (R199). -/
def State.countsMinute (s : State) (m : Fin 23) : Bool :=
  let q := s.seq
  let on := q.cmdQ > 0
  let mode := q.inForce.map PassResult.mode
  match m.val with
  | 0 => on
  | 2 => on && ((q.state = .run && q.runSide = some .heat) || q.state = .recovery)
  | 3 => on && q.state = .run && q.runSide = some .cool && mode = some .cool
  | 4 => on && q.state = .run && q.runSide = some .cool && mode = some .dry
  | n =>
    match zoneIx (n - 10) with
    | some z => (s.zone z).calling
    | none => false

/-- Frost time gains this minute (R111). -/
def State.countsFrost (s : State) : Bool :=
  s.seq.state = .run && s.seq.runSide = some .heat &&
    match s.outdoorEntry with
    | some d => d.coil ≤ s.tables.plant.frostCoil
    | none => false

/-- The frost time after the minute, stopping at 65,535 (R111). -/
def State.countFrost (s : State) : State :=
  if s.countsFrost then s.setSeq fun q => { q with frostTime := min 65535 (q.frostTime + 1) } else s

/-- The zone gains a starvation minute (R51). -/
def State.starves (s : State) (z : Fin 12) : Bool :=
  s.engine.mark.get z && (s.row z).enabled && (s.row z).voting && (s.zone z).reading = .fresh

/-- The starvation minutes after the minute, stopping at 65,535 (R51). -/
def State.countStarvation (s : State) : State :=
  { s with
    engine := { s.engine with
      starve := s.engine.starve.mapIdx fun z n => if s.starves z then min 65535 (n + 1) else n } }

/-- UPTIME_MINUTE (R199). -/
def execUptimeMinute (s : State) : Result :=
  .next <|
    let t := ({ s with uptime := sat32 (s.uptime + 1) } : State).countAll s.countsMinute
    let t := t.countFrost.countStarvation
    State.answerChanges s (if t.phase = .stopping then t else t.testDefrost)

end Sys2Proof.Machine
end

