-- ==== Sys2Proof/Machine/PassEvents.lean ====
section
/-! DEFINITION. The Arbitration Engine's own events: the pass timer (R37) and the changeover lockout timer (R56). -/

namespace Sys2Proof.Machine

/-- PASS_TIMER_EXPIRY (R37). -/
def execPassTimerExpiry (s : State) : Result :=
  .next (if s.engine.passTimer.isRunning then State.answerChanges s s.runPass else s)

/-- CHANGEOVER_LOCKOUT_EXPIRY: the timer is expired and nothing else happens (R56). -/
def execChangeoverLockoutExpiry (s : State) : Result := .next { s with engine := { s.engine with lockout := .stopped } }

end Sys2Proof.Machine
end

