-- ==== Sys2Proof/Machine/PlantBus.lean ====
section
/-! DEFINITION. The plant bus commands (chapter 7): the slot grant, the end of a reply window, the frames of the plant
bus, the three movement timeouts and the poll round. -/

namespace Sys2Proof.Machine

/-- What follows an event of the plant bus: STOPPING may end (R197), and its changes are broadcast (R187). -/
def State.afterPlant (before s : State) : State := State.answerChanges before s.finishStopping

/-- SLOT_GRANT: a free slot goes to the first candidate; none is granted while loading or while an exchange is in progress
(R135, R144, R194). -/
def execSlotGrant (s : State) : Result :=
  .next (if s.phase ≠ .loading ∧ s.port.exchange.isNone = true then s.grant else s)

/-- The window of the exchange in progress ends without a reply (R135, R138, R145, R147). -/
def State.unanswered (s : State) (x : Exchange) : State :=
  match x.what with
  | .command a => s.commandUnanswered a
  | .poll t => s.pollMissed t
  | .forward slot kind payload retried => s.forwardUnanswered x slot kind payload retried
  | .orphan _ => s.setPort fun p => { p with exchange := none }

/-- REPLY_WINDOW_EXPIRY (R135). -/
def execReplyWindowExpiry (s : State) : Result :=
  .next <|
    match s.port.exchange with
    | some x => State.afterPlant s (s.unanswered x)
    | none => s

/-- PLANT_CRC_DROP: a run of bytes that fails the tests of R153 counts on meter 9, inside a window or outside one (R198). -/
def execPlantCrcDrop (bytes : List Byte) (s : State) : Result :=
  .next (if (Frame.parse bytes).isNone then s.count 9 else s)

/-- PLANT_FRAME_DISCARD: a frame that is no reply to the exchange in progress has no effect (R135). -/
def execPlantFrameDiscard (_frame : Frame) (s : State) : Result := .next s

/-! Replies (R135). -/

/-- The exchange in progress that a frame answers by its source, destination and sequence (R135). -/
def State.answeredBy (s : State) (dst src seq : Byte) : Option Exchange :=
  match s.port.exchange with
  | some x => if x.addr = src.toNat ∧ dst = Config.plantAddress ∧ x.seq = seq then some x else none
  | none => none

/-- A frame that answers a forwarded frame, of whatever kind, goes to its held-reply slot (R168). The reply of a slot left over
from before a warm restart's clearing ends that slot and is discarded (R150); a frame whose kind or length does not answer
it is discarded too, and the slot listens on (R135). -/
def State.takeForwarded (s : State) (x : Exchange) (kind : Byte) (payload : List Byte) : State :=
  match x.what with
  | .forward slot _ _ _ => (s.setPort fun p => { p with exchange := none }).outcome slot (some (kind, payload))
  | .orphan w => if w.takes kind payload then s.setPort fun p => { p with exchange := none } else s
  | _ => s

/-- The entry in flight becomes MOVING with its timeout (R136). -/
def Queue.startMoving (q : Queue) (a : Actuator) (t : Timer) : Queue :=
  q.updInFlight a fun e => { e with st := .moving, timeout := t }

/-- A WAITING compressor 0 stands behind the entry in flight (R132). -/
def Queue.stopWaits (q : Queue) : Bool := q.entries.any fun e => e.act = .compressor && e.st = .waiting && e.value = 0

/-- What an ACCEPT does to the entry of its actuator (R132, R136). -/
def State.acceptEntry (s : State) (e : Entry) : State :=
  let p := s.tables.plant
  match e.act with
  | .fan | .defrost => s.setQueue fun q => q.complete e.act e.value
  | .damper z => s.setQueue fun q => q.startMoving (.damper z) (s.timer (secs p.travelTimeout))
  | .valve => s.setQueue fun q => q.startMoving .valve (s.timer 30000)
  | .compressor =>
    if s.queue.stopWaits then s.setQueue fun q => q.removeInFlight .compressor
    else s.setQueue fun q => q.startMoving .compressor (s.timer (secs p.rampTimeout))

/-- An ACCEPT taken for the command of an actuator (R136, R137, R142). -/
def State.acceptCommand (s : State) (a : Actuator) : State :=
  let s := s.setPort fun p => { p with exchange := none }
  match s.queue.inFlight a with
  | some e =>
    (s.setQueue fun q => { q.answered a with refused := q.refused.set a.ix false }).acceptEntry e
  | none => s

/-- ACCEPT (R136). -/
def execAccept (dst src seq : Byte) (payload : List Byte) (s : State) : Result :=
  .next <|
    match s.answeredBy dst src seq with
    | none => s
    | some x =>
      match x.what with
      | .command a => if payload = [] then State.afterPlant s (s.acceptCommand a) else s
      | _ => s.takeForwarded x kindAccept payload

/-- A REFUSE taken for the command of an actuator (R137). -/
def State.refuseCommand (s : State) (a : Actuator) : State :=
  let s := s.setPort fun p => { p with exchange := none }
  match s.queue.inFlight a with
  | some e =>
    let s := if s.queue.refused.get a.ix then s else s.fault .nodeRefused a.number e.value
    let s := s.setQueue fun q => { (q.removeInFlight a).answered a with refused := q.refused.set a.ix true }
    if a = .valve then s.valveReport none else s
  | none => s

/-- REFUSE (R137). -/
def execRefuse (dst src seq : Byte) (payload : List Byte) (s : State) : Result :=
  .next <|
    match s.answeredBy dst src seq with
    | none => s
    | some x =>
      match x.what with
      | .command a => if payload.length ≤ 1 then State.afterPlant s (s.refuseCommand a) else s
      | _ => s.takeForwarded x kindRefuse payload

/-- FORWARDED_REPLY (R168). -/
def execForwardedReply (frame : Frame) (s : State) : Result :=
  .next <|
    match s.answeredBy frame.dst frame.src frame.seq with
    | none => s
    | some x => s.takeForwarded x frame.kind frame.payload

/-- INDOOR_REPLY: filed where it answers a poll of the indoor board (R148, R155). -/
def execIndoorReply (dst src seq : Byte) (payload : List Byte) (s : State) : Result :=
  .next <|
    match s.answeredBy dst src seq with
    | none => s
    | some x =>
      match x.what, parseIndoor payload with
      | .poll t, some d => if t = 0 then State.answerChanges s (s.fileIndoor t x.addr d) else s
      | _, _ => s.takeForwarded x kindIndoorReply payload

/-- OUTDOOR_REPLY: filed where it answers a poll of the outdoor board (R148, R155). -/
def execOutdoorReply (dst src seq : Byte) (payload : List Byte) (s : State) : Result :=
  .next <|
    match s.answeredBy dst src seq with
    | none => s
    | some x =>
      match x.what, parseOutdoor payload with
      | .poll t, some d => if t = 1 then State.afterPlant s (s.fileOutdoor t x.addr d) else s
      | _, _ => s.takeForwarded x kindOutdoorReply payload

/-- DAMPER_REPLY: filed where it answers a poll of a damper (R139, R148, R155). -/
def execDamperReply (dst src seq : Byte) (payload : List Byte) (s : State) : Result :=
  .next <|
    match s.answeredBy dst src seq with
    | none => s
    | some x =>
      match x.what, parseDamper payload with
      | .poll t, some d => if 2 ≤ t.val then State.answerChanges s (s.fileDamper t x.addr d) else s
      | _, _ => s.takeForwarded x kindDamperReply payload

/-! Timeouts (R139, R140, R141). -/

/-- The actuator's MOVING entry whose timeout runs. -/
def State.timedMove (s : State) (a : Actuator) : Option Entry :=
  match s.queue.inFlight a with
  | some e => if e.st = .moving ∧ e.timeout.isRunning = true then some e else none
  | none => none

/-- TRAVEL_TIMEOUT (R139). -/
def execTravelTimeout (zone : Nat) (s : State) : Result :=
  .next <|
    match zoneIx zone with
    | none => s
    | some z =>
      match s.timedMove (.damper z) with
      | some e => s.stall (.damper z) (s.cachedPosition (e.addr.getD 0))
      | none => s

/-- RAMP_TIMEOUT (R140). -/
def execRampTimeout (s : State) : Result :=
  .next <|
    match s.timedMove .compressor with
    | some _ =>
      State.afterPlant s (s.stall .compressor ((s.outdoorEntry.map OutdoorData.actualCapacity).getD 0))
    | none => s

/-- VALVE_TIMEOUT (R141). -/
def execValveTimeout (s : State) : Result :=
  .next <|
    match s.timedMove .valve with
    | some _ =>
      let t := s.stall .valve ((s.outdoorEntry.map fun d => d.valve.code).getD 0)
      State.answerChanges s (t.valveReport none)
    | none => s

/-- POLL_ROUND_DUE: the time of the round already made due has come (R146). -/
def execPollRoundDue (s : State) : Result :=
  .next (if s.port.roundTimer.isRunning then s.roundDue else s)

end Sys2Proof.Machine
end

