-- ==== Sys2Proof/Machine/PlantTimers.lean ====
section
/-! DEFINITION. The expiries of the Plant Sequencer's timers (chapters 5 and 6). Each takes no effect in STOPPING (R196),
and none where its timer does not run. -/

namespace Sys2Proof.Machine

/-- The expiry of one of the sequencer's timers: nothing in STOPPING or where the timer does not run (R196, log 7); else
what it does, and the broadcasts of its changes (R187). -/
def State.plantTimer (s : State) (timer : Timer) (effect : State → State) : State :=
  if s.phase ≠ .stopping ∧ timer.isRunning = true then State.answerChanges s (effect s) else s

/-- The start test for the pending result of START_WAIT, unless a valve command has failed since (R93). -/
def State.retryStart (s : State) : State :=
  if s.seq.valveFailed then s
  else match s.seq.newest with
    | some r => s.startTest r
    | none => s

/-- The newest result continues the run at the min run expiry: carried out, and the defrost made where one is wanted
(R96, R112). Where it is, the event stops the compressor, so the result's compressor and fan go before the defrost's and
its dampers last (R88, log 37). -/
def State.continueAtExpiry (s : State) (r : PassResult) : State :=
  let plant := (s.adjustLimit.continueRun r).runPlant r
  if plant.defrostWanted ∧ ¬ plant.seq.minRun.isRunning then plant.enterDefrost.dispatchDampers r
  else s.adjustLimit.carryRun r

/-- The min run expiry's part of R96: the newest result continues the run, or the run stops. -/
def State.endMinRunHold (s : State) : State :=
  match s.seq.newest with
  | some r => if s.continuesRun r then s.continueAtExpiry r else s.stopRun
  | none => s.stopRun

/-- The min run timer has elapsed: the hold of R96, or the test for a wanted defrost (R112). -/
def State.minRunElapsed (s : State) : State :=
  let s := s.setSeq fun q => { q with minRun := .stopped }
  if s.seq.state = .run ∧ s.seq.minRunHold = true then s.endMinRunHold else s.testDefrost

/-- MIN_RUN_EXPIRY (R96, R112). -/
def execMinRunExpiry (s : State) : Result := .next (s.plantTimer s.seq.minRun State.minRunElapsed)

/-- The min off timer has elapsed (R93, R117, R122). -/
def State.minOffElapsed (s : State) : State :=
  let s := s.setSeq fun q => { q with minOff := .stopped }
  match s.seq.state, s.seq.phase with
  | .startWait, _ => s.retryStart
  | .defrost, some .startIn => s.startMelt
  | .recovery, some .startOut => s.recoveryTest
  | _, _ => s

/-- MIN_OFF_EXPIRY (R93, R117, R122). -/
def execMinOffExpiry (s : State) : Result := .next (s.plantTimer s.seq.minOff State.minOffElapsed)

/-- The equalize timer has elapsed (R93, R99). -/
def State.equalizeElapsed (s : State) : State :=
  let s := s.setSeq fun q => { q with equalize := .stopped }
  match s.seq.state with
  | .startWait => s.retryStart
  | .equalize => s.equalizeDone
  | _ => s

/-- EQUALIZE_EXPIRY (R93, R99). -/
def execEqualizeExpiry (s : State) : Result := .next (s.plantTimer s.seq.equalize State.equalizeElapsed)

/-- The overrun has run (R98). -/
def State.overrunElapsed (s : State) : State :=
  let s := s.setSeq fun q => { q with overrun := .stopped }
  if s.seq.state = .overrun then s.overrunEnd else s

/-- OVERRUN_EXPIRY (R98). -/
def execOverrunExpiry (s : State) : Result := .next (s.plantTimer s.seq.overrun State.overrunElapsed)

/-- The cold-draft hold time has run, in RUN or in WARMING (R101, R123). -/
def State.coldDraftElapsed (s : State) : State :=
  let s := s.setSeq fun q => { q with coldDraft := .stopped }
  if s.seq.state = .run ∧ s.seq.coldDraftHold = true then s.endColdDraft
  else if s.seq.state = .recovery ∧ s.seq.phase = some .warming then s.endRecovery
  else s

/-- COLD_DRAFT_HOLD_EXPIRY (R101, R123). -/
def execColdDraftHoldExpiry (s : State) : Result := .next (s.plantTimer s.seq.coldDraft State.coldDraftElapsed)

/-- The coil freeze time has run with the hold active (R103). -/
def State.coilFreezeElapsed (s : State) : State :=
  let s := s.setSeq fun q => { q with coilFreeze := .stopped }
  if s.seq.coilFreezeHold then s.takeCause .coilFreeze s.seq.indoorCoil else s

/-- COIL_FREEZE_TIMER_EXPIRY (R103). -/
def execCoilFreezeTimerExpiry (s : State) : Result := .next (s.plantTimer s.seq.coilFreeze State.coilFreezeElapsed)

/-- The lockout-time timer of a cause; the lost boards have none (R106). -/
def Causes.timer (cs : Causes) : LockoutCause → Timer
  | .outdoorFault => cs.outdoorTimer
  | .condensate => cs.condTimer
  | .coilFreeze => cs.freezeTimer
  | .outdoorLost | .indoorLost => .stopped

/-- A cause's lockout time has run: it ends, CONDENSATE only where NORMAL has been seen (R106). -/
def State.lockoutElapsed (s : State) (c : LockoutCause) : State :=
  match c with
  | .condensate =>
    let s := s.setSeq fun q => { q with causes := { q.causes with condTimer := .stopped } }
    if s.seq.causes.condNormalSeen then s.endCause .condensate else s
  | c => s.endCause c

/-- LOCKOUT_TIME_EXPIRY (R106). -/
def execLockoutTimeExpiry (cause : LockoutCause) (s : State) : Result :=
  .next (s.plantTimer (s.seq.causes.timer cause) fun s => s.lockoutElapsed cause)

/-- The defrost pause has run, entering or leaving (R115, R121). -/
def State.pauseElapsed (s : State) : State :=
  let s := s.setSeq fun q => { q with pauseTimer := .stopped }
  match s.seq.phase with
  | some .pauseIn =>
    ((s.dispatchValve .cool).dispatchDefrost 1).setSeq fun q => { q with phase := some .valveIn }
  | some .pauseOut => s.endByShadow
  | _ => s

/-- DEFROST_PAUSE_EXPIRY (R115, R121). -/
def execDefrostPauseExpiry (s : State) : Result := .next (s.plantTimer s.seq.pauseTimer State.pauseElapsed)

/-- The defrost has run its longest: it ends as incomplete, the second in a row as OUTDOOR_FAULT (R120). -/
def State.meltTimedOut (s : State) : State :=
  let s := s.setSeq fun q => { q with maxTimer := .stopped }
  if s.seq.phase = some .melt then
    let n := s.seq.incomplete + 1
    let coil := (s.outdoorEntry.map OutdoorData.coil).getD 0
    let s := (s.fault .defrostIncomplete s.outdoorAddress coil).count 6
    if n ≥ 2 then (s.setSeq fun q => { q with incomplete := 0 }).takeCause .outdoorFault 0
    else (s.setSeq fun q => { q with incomplete := n }).endMelt
  else s

/-- DEFROST_MAX_EXPIRY (R120). -/
def execDefrostMaxExpiry (s : State) : Result := .next (s.plantTimer s.seq.maxTimer State.meltTimedOut)

end Sys2Proof.Machine
end

