-- ==== Sys2Proof/Machine/Reporting.lean ====
section
/-! DEFINITION. The timers of the room side: the broadcast period (R186), the holdoff (R187) and the discard timers of the
held-reply slots (R169). -/

namespace Sys2Proof.Machine

/-- PERIOD_TIMER_EXPIRY: one broadcast, and the timer again (R186). -/
def execPeriodTimerExpiry (s : State) : Result :=
  .next <|
    if s.mgmt.period.isRunning then
      s.broadcast.setMgmt fun m => { m with period := s.timer (secs s.tables.report.period) }
    else s

/-- HOLDOFF_TIMER_EXPIRY: with pending set one broadcast and the holdoff again, else the timer stops (R187). -/
def execHoldoffTimerExpiry (s : State) : Result :=
  .next <|
    if s.mgmt.holdoff.isRunning then
      if s.mgmt.pending then (s.broadcast.setMgmt fun m => { m with pending := false }).startHoldoff
      else s.setMgmt fun m => { m with holdoff := .stopped }
    else s

/-- The held outcome of a READY slot is discarded and counted (R169). -/
def State.discard (s : State) (i : Fin 4) : State :=
  match s.room.slots.get i with
  | .ready .. => ({ s with room := { s.room with slots := s.room.slots.set i .free } } : State).count 10
  | _ => s

/-- DISCARD_TIMER_EXPIRY (R169). -/
def execDiscardTimerExpiry (slot : Nat) (s : State) : Result :=
  .next (if h : slot < 4 then s.discard ⟨slot, h⟩ else s)

end Sys2Proof.Machine
end

