-- ==== Sys2Proof/Machine/Management.lean ====
section
/-! DEFINITION. The Management Unit's shared operations (chapter 9): roles (R171, R172), the checks of a request (R173),
zone changes (R175, R176), the sections of READ_STATUS (R177), and what a field write does to the part (R179, R180). -/

namespace Sys2Proof.Machine

/-! Roles (R172, R173). -/

/-- The role of a request's source (R172). -/
inductive Role where
  | none | console | master | service
  deriving DecidableEq, Repr

/-- What the role lookup gives: the role, the bound zone and the meters open value (R172). -/
structure Caller where
  role       : Role
  bound      : Nat
  metersOpen : Bool
  deriving DecidableEq, Repr

def roleOfCode (c : Int) : Role := if c = 0 then .console else if c = 1 then .master else .service

/-- The first row whose address is the source (R172). -/
def State.caller (s : State) (src : Byte) : Caller :=
  match s.tables.role.data.find? fun r => r.num 1 = (src.toNat : Int) with
  | some r => ⟨roleOfCode (r.num 2), (r.num 3).toNat, r.num 4 ≠ 0⟩
  | none => ⟨.none, 0, false⟩

/-- The permissions of R173 but for the bound zone. -/
def Caller.mayRead (c : Caller) : Bool := c.role ≠ .none
def Caller.mayReadField (c : Caller) : Bool := c.role = .master || c.role = .service
def Caller.mayReadMeter (c : Caller) : Bool := c.role = .service || (c.role ≠ .none && c.metersOpen)
def Caller.mayServe (c : Caller) : Bool := c.role = .service

/-! Taking a request (R173). -/

/-- A frame to the part's own address whose source R156 does not discard. -/
def State.fromRoomNode (s : State) (src : Byte) : Bool :=
  1 ≤ src.toNat && src.toNat ≤ 63 && src ≠ s.ownAddress

/-- Answers a request sent to the part's own address (R158). -/
def State.answer (s : State) (src seq : Byte) (st : Status) (data : List Byte) : State :=
  s.reply s.ownAddress src seq st data

/-- The checks before a request's own rule: delivery (R156), BUSY outside running (R157), form and role (R173). -/
def State.request {α : Type} (s : State) (src seq : Byte) (form : Option α) (allowed : Caller → Bool)
    (act : α → State) : State :=
  if s.fromRoomNode src then
    if s.phase ≠ .running then s.answer src seq .busy []
    else match form with
      | none => s.answer src seq .malformed []
      | some a => if allowed (s.caller src) then act a else s.answer src seq .notPermitted []
  else s

/-- A save or a meter write is in progress (R183, R193). -/
def State.busy (s : State) : Bool := s.store.saving ≠ .idle

/-! SET_ZONE (R4, R175). -/

/-- One setpoint part: the row after it, and whether anything so far was clamped or moved. -/
def applyPart (part : Option Int) (write : ZoneRow → Int → ZoneRow × Bool) (x : ZoneRow × Bool) : ZoneRow × Bool :=
  match part with
  | some v => ((write x.1 v).1, x.2 || (write x.1 v).2)
  | none => x

/-- The setpoint parts in the order heat, cool, dry (R4). -/
def SetZoneArgs.row (a : SetZoneArgs) (row : ZoneRow) : ZoneRow × Bool :=
  applyPart a.dry ZoneRow.writeDry (applyPart a.cool ZoneRow.writeCool (applyPart a.heat ZoneRow.writeHeat (row, false)))

/-- The request carries a setpoint part. -/
def SetZoneArgs.hasSetpoint (a : SetZoneArgs) : Bool := a.heat.isSome || a.cool.isSome || a.dry.isSome

/-- An explicit occupancy part: the base occupancy stored and the override cancelled (R26). -/
def ZoneRec.occupy (r : ZoneRec) (b : Occupancy) : ZoneRec :=
  { r with base := b, override := none, minuteCount := .stopped }

/-- An OVERRIDE part: the override starts or starts again (R27). -/
def ZoneRec.startOverride (r : ZoneRec) (minutes : Int) (count : Timer) : ZoneRec :=
  { r with override := some minutes.toNat, minuteCount := count }

/-- The occupancy part of an enabled zone (R26, R27). -/
def State.applyOccupancy (s : State) (z : Fin 12) (occ : Option Nat) : State :=
  if (s.row z).enabled then
    match occ with
    | some 0 => s.setZone z fun r => r.occupy .occupied
    | some 1 => s.setZone z fun r => r.occupy .setback
    | some 2 => s.setZone z fun r => r.occupy .away
    | some _ => s.setZone z fun r => r.startOverride (s.row z).overrideTime (s.timer 60000)
    | none => s
  else s

/-- A row of table 1 replaced. -/
def State.setRow (s : State) (z : Fin 12) (row : ZoneRow) : State :=
  { s with tables := { s.tables with zone := s.tables.zone.set z row } }

/-- The zone changes of a taken SET_ZONE, whole (R4). -/
def State.changeZone (s : State) (z : Fin 12) (a : SetZoneArgs) : State :=
  ((s.setRow z (a.row (s.row z)).1).applyOccupancy z a.occupancy).refreshZone z

def Occupancy.code : Occupancy → Int
  | .occupied => 0 | .setback => 1 | .away => 2

/-- The reply data of a SET_ZONE (R174). -/
def State.setZoneData (s : State) (z : Fin 12) : List Byte :=
  bytes2 (s.row z).sh ++ bytes2 (s.row z).sc ++ bytes2 (s.row z).rhs
  ++ [byteOf (s.zone z).base.code] ++ bytes2 ((s.zone z).override.getD 0 : Nat)

/-- The status of a taken change. -/
def takenStatus (clamped : Bool) : Status := if clamped then .clamped else .ok

/-- What follows a taken SET_ZONE or WRITE_FIELD that began in `before`: the quiet timer or the wake (R32, R34), then the
reply, then the broadcasts of its changes (log 9). -/
def State.finishTaken (before : State) (src seq : Byte) (st : Status) (data : State → List Byte) (s : State) : State :=
  let s := State.afterZones before true s
  State.answerChanges before (s.reply before.ownAddress src seq st (data s))

/-! READ_ZONE (R176). -/

def ActStatus.code : ActStatus → Int
  | .unknown => 0 | .ready => 1 | .unresponsive => 2 | .stalled => 3 | .outOfField => 4

/-- The 28 bytes of a READ_ZONE. -/
def State.zoneData (s : State) (z : Fin 12) : List Byte :=
  let r := s.zone z
  [byteOf r.reading.code] ++ bytes2 r.temp ++ bytes2 (r.humidity.getD 65535) ++ bytes2 r.age
  ++ [byteOf r.base.code] ++ bytes2 (r.override.getD 0 : Nat)
  ++ bytes2 r.shEff ++ bytes2 r.scEff ++ bytes2 r.rhsEff ++ [byteOf r.callBits]
  ++ bytes2 r.acc ++ bytes2 r.dem ++ bytes2 r.dryDem
  ++ [flagByte r.dryExcluded, targetByte r.target, byteOf (s.queue.status.get (Actuator.ix (.damper z))).code]
  ++ bytes2 (s.engine.starve.get z)

/-! READ_STATUS (R177). -/

def causeCode : Option LockoutCause → Int
  | none => 0
  | some .outdoorFault => 1
  | some .condensate => 2
  | some .outdoorLost => 3
  | some .indoorLost => 4
  | some .coilFreeze => 5

def bit (b : Bool) (v : Int) : Int := if b then v else 0

/-- The outstanding causes summed (R177). -/
def Causes.bits (cs : Causes) : Int :=
  bit cs.outdoorFault 1 + bit cs.condensate 2 + bit cs.outdoorLost 4 + bit cs.indoorLost 8 + bit cs.coilFreeze 16

/-- COOL 0, HEAT 1, otherwise 2 (R177). -/
def directionCode : Option Side → Int
  | some .cool => 0
  | some .heat => 1
  | none => 2

/-- Section 0, plant. -/
def State.sectionPlant (s : State) : List Byte :=
  let q := s.seq
  [byteOf q.state.code, byteOf (sideCode q.runSide), byteOf (causeCode q.displayed), byteOf q.causes.bits,
   byteOf (directionCode q.valveDir), byteOf (directionCode q.inFlight)]
  ++ bytes2 q.cmdQ ++ [byteOf q.cmdF] ++ bytes2 q.capLimit
  ++ bytes2 (s.secsLeft q.minOff) ++ bytes2 (s.secsLeft q.minRun) ++ bytes2 (s.secsLeft q.equalize)
  ++ [byteOf (bit q.minRunHold 1 + bit q.coldDraftHold 2 + bit q.coilFreezeHold 4), byteOf q.history.length]
  ++ bytes4 (q.history.getD 0 0) ++ bytes4 (q.history.getD 1 0) ++ bytes4 (q.history.getD 2 0)

def phaseCode : Option DefrostPhase → Int
  | none => 0
  | some .pauseIn => 1
  | some .valveIn => 2
  | some .startIn => 3
  | some .melt => 4
  | some .pauseOut => 5
  | some .valveOut => 6
  | some .startOut => 7
  | some .warming => 8

/-- Section 1, defrost. -/
def State.sectionDefrost (s : State) : List Byte :=
  let q := s.seq
  [byteOf (phaseCode q.phase), flagByte q.shadow.isSome] ++ bytes4 ((q.shadow.map PassResult.number).getD 0 : Nat)
  ++ bytes2 q.frostTime ++ [byteOf q.incomplete] ++ bytes2 (s.secsLeft q.pauseTimer) ++ bytes2 (s.secsLeft q.coldDraft)
  ++ [byteOf (s.minsLeft q.maxTimer), byteOf q.defrostCtl]

/-- The flags of a result, summed. -/
def PassResult.flagBits (r : PassResult) : Int :=
  bit r.changeoverHeld 1 + bit r.sideBlocked 2 + bit r.forcedRelief 4 + bit r.airflowShort 8

/-- The items of the latest pass result; zeros with none. -/
def resultItems : Option PassResult → List Byte
  | none => [0] ++ bytes4 0 ++ [0] ++ bytes2 0 ++ [0, 0, 0]
  | some r =>
    [1] ++ bytes4 r.number ++ [byteOf r.mode.code] ++ bytes2 r.q ++ [byteOf r.f, byteOf r.flagBits, byteOf r.relief.length]
    ++ r.relief.map fun z : Fin 12 => byteOf ((z.val + 1 : Nat) : Int)

/-- Section 2, arbitration. -/
def State.sectionArbitration (s : State) : List Byte :=
  [byteOf (if s.economy = .quiet then 1 else 0), byteOf (sideCode s.engine.served), byteOf (s.minsLeft s.engine.lockout)]
  ++ bytes2 s.engine.prevQ ++ [byteOf s.engine.lowCount] ++ resultItems s.engine.latest

/-- Section 3, zones. -/
def State.sectionZones (s : State) : List Byte :=
  (zones12.map fun z => targetByte (s.engine.latest.bind fun r => r.targets.get z))
  ++ zones12.flatMap fun z => bytes2 (s.engine.starve.get z)

/-- The actuators in number order (R128). -/
def actuators : List Actuator := zones12.map Actuator.damper ++ [.fan, .compressor, .valve, .defrost]

/-- Section 4, actuators. -/
def State.sectionActuators (s : State) : List Byte :=
  actuators.flatMap fun a => [byteOf (s.queue.status.get a.ix).code, flagByte (s.queue.reserved a)]

/-- Sections 5 and 6: the last issued and the last completed values. -/
def valueItems (t : Tab 16 (Option Int)) : List Byte := actuators.flatMap fun a => bytes2 ((t.get a.ix).getD 0)

def EntryState.code : EntryState → Int
  | .waiting => 0 | .issued => 1 | .moving => 2

/-- One entry of section 7. -/
def Entry.item (e : Entry) : List Byte :=
  [byteOf e.act.number, byteOf (e.st.code + bit (e.origin = .sequencer) 4)] ++ bytes2 e.value ++ [byteOf e.retries]

/-- Section 7, queue. -/
def State.sectionQueue (s : State) (start : Nat) : List Byte :=
  [byteOf s.queue.entries.length, byteOf start] ++ ((s.queue.entries.drop start).take 8).flatMap Entry.item

/-- One held-reply slot of section 8. DESIGN CHOICE (log 40): a FREE slot, which has no contents (R165), is shown as zeros;
R177 gives its bytes no value. -/
def State.slotItem (s : State) : Slot → List Byte
  | .free => [0, 0, 0, 0, 0, 0, 0]
  | .pending r p k q _ => [1, r, p, k, q, 0, 0]
  | .ready r p k q _ t => [2, r, p, k, q] ++ bytes2 (s.secsLeft t)

/-- Section 8, buses and store. -/
def State.sectionBuses (s : State) : List Byte :=
  [byteOf (bit s.port.lostIndoor 1 + bit s.port.lostOutdoor 2)]
  ++ (s.port.missed.data.map fun n : Nat => byteOf n)
  ++ s.room.slots.data.flatMap s.slotItem ++ [flagByte s.busy, flagByte s.store.wpHigh]

/-- The section of a READ_STATUS (R177). -/
def State.statusSection (s : State) (section_ start : Nat) : List Byte :=
  match section_ with
  | 0 => s.sectionPlant
  | 1 => s.sectionDefrost
  | 2 => s.sectionArbitration
  | 3 => s.sectionZones
  | 4 => s.sectionActuators
  | 5 => valueItems s.queue.lastIssued
  | 6 => valueItems s.queue.lastCompleted
  | 7 => s.sectionQueue start
  | _ => s.sectionBuses

/-! Fields (R178, R179, R180). -/

/-- The first check of R178 that fails. -/
def fieldCheck (t row f : Nat) : Option Status :=
  if t < 1 ∨ 6 < t then some .noSuchTable
  else if row < 1 ∨ tableRows t < row then some .tableRange
  else if f < 1 ∨ tableFields t < f then some .noSuchField
  else none

/-- A zone's enabled field written (R6, R7): a change resets the record, and a disable sends its damper to 0. -/
def State.wroteEnabled (before : State) (z : Fin 12) (s : State) : State :=
  if (before.row z).enabled = (s.row z).enabled then s
  else
    let s := s.setZone z fun _ => ZoneRec.reset (s.row z)
    if (s.row z).enabled then s else s.enqueue (.damper z) 0 .sequencer

/-- A zone's voting field written (R8). -/
def State.wroteVoting (before : State) (z : Fin 12) (s : State) : State :=
  if (before.row z).voting = true ∧ (s.row z).voting = false then
    s.setZone z fun r => { r with acc := 0, dem := 0, dryDem := 0 }
  else s

/-- A field of table 1 written (R5, R6, R7, R8). -/
def State.wroteZone (before : State) (z : Fin 12) (f : Nat) (s : State) : State :=
  match f with
  | 1 => State.wroteEnabled before z s
  | 2 => State.wroteVoting before z s
  | 8 | 9 | 10 | 11 => s.refreshZone z
  | _ => s

/-- The zone is held to the AWAY setpoints (R20, R30). -/
def State.heldAway (s : State) (z : Fin 12) : Bool :=
  (s.row z).enabled && (s.zone z).base = .away && (s.zone z).override.isNone

/-- A field of table 5 written: a changed away setpoint recomputes the AWAY zones (R20, R30). DESIGN CHOICE (log 39): a write
of the value it already held recomputes none (R179 refers to R20, which speaks of a change). -/
def State.wrotePlant (before : State) (f : Nat) (s : State) : State :=
  if 53 ≤ f ∧ f ≤ 55 ∧ before.tables.plant.num f ≠ s.tables.plant.num f then
    zones12.foldl (fun s z => if s.heldAway z then s.refreshZone z else s) s
  else s

/-- The reporting mode written (R187). -/
def State.wroteMode (before : State) (s : State) : State :=
  if before.tables.report.onChange = s.tables.report.onChange then s
  else if s.tables.report.onChange then s.setMgmt fun m => { m with period := .stopped }
  else
    s.setMgmt fun m =>
      { m with holdoff := .stopped, pending := false, period := s.timer (secs s.tables.report.period) }

/-- What a write does beside storing its value (R180). -/
def State.wrote (before : State) (t row f : Nat) (s : State) : State :=
  match t with
  | 1 =>
    match zoneIx row with
    | some z => State.wroteZone before z f s
    | none => s
  | 5 => State.wrotePlant before f s
  | 6 => if f = 1 then State.wroteMode before s else s
  | _ => s

/-- The reply data of a WRITE_FIELD (R179). -/
def State.writeData (t row f : Nat) (s : State) : List Byte :=
  bytes3 (s.tables.read t row f)
  ++ (if t = 1 ∧ f = 8 then bytes3 (s.tables.read t row 9)
      else if t = 1 ∧ f = 9 then bytes3 (s.tables.read t row 8) else [])

/-! The Fault List as it is read (R181). -/

def FaultKind.code : FaultKind → Int
  | .sensorStale => 1 | .actuatorUnresponsive => 2 | .actuatorStalled => 3 | .nodeRefused => 4 | .addressRange => 5
  | .outdoorFault => 6 | .outdoorLost => 7 | .indoorLost => 8 | .condensateHigh => 9 | .coilFreeze => 10
  | .defrostIncomplete => 11 | .hardLockout => 12 | .storeRecordSkipped => 13

/-- The nine bytes of an entry. -/
def FaultEntry.item (e : FaultEntry) : List Byte :=
  [byteOf e.kind.code, byteOf e.subject] ++ bytes4 e.minute ++ bytes3 e.detail

/-- The reply data of a READ_FAULTS. -/
def State.faultsData (s : State) (start : Nat) : List Byte :=
  [byteOf s.faults.length, byteOf start] ++ ((s.faults.drop start).take 5).flatMap FaultEntry.item

/-- The reply data of a READ_METER. -/
def meterData (v : Nat) (narrow : Bool) : List Byte := if narrow then bytes2 v else bytes4 v

/-! CLEAR_LOCKOUT (R108). -/

/-- Step 3 of R108: each condition that would trigger a cause now. -/
def State.retakeCauses (s : State) : State :=
  let s := if s.port.lostIndoor then s.takeCause .indoorLost 0 else s
  let s := if s.port.lostOutdoor then s.takeCause .outdoorLost 0 else s
  let s := if (s.indoorEntry.map IndoorData.floatHigh).getD false then s.takeCause .condensate 0 else s
  let code := (s.outdoorEntry.map OutdoorData.faultCode).getD 0
  if code = 0 then s else s.takeCause .outdoorFault code

/-- The clear of HARD_LOCKOUT (R108). -/
def State.clearHard (s : State) : State :=
  let s := s.setSeq fun q =>
    { q with history := [], state := .idle, minOff := s.timer (secs s.tables.plant.minOff) }
  let t := s.retakeCauses
  if t.seq.causes.any then t
  else match t.seq.newest with
    | some r => t.takeAsIdle r
    | none => t

end Sys2Proof.Machine
end

