-- ==== Sys2Proof/Machine/Requests.lean ====
section
/-! DEFINITION. The meanings of the ten management requests (chapter 9). Each follows the checks of R173 in their order
and then its own rule. -/

namespace Sys2Proof.Machine

/-- A CONSOLE may set its bound zone, a MASTER or SERVICE any zone (R173). -/
def Caller.mayZone (c : Caller) (zone : Nat) : Bool := c.role ≠ .console || c.bound = zone

/-- SET_ZONE (R4, R173, R175). -/
def execSetZone (src seq : Byte) (payload : List Byte) (s : State) : Result :=
  .next <| s.request src seq (parseSetZone payload) Caller.mayRead fun a =>
    match zoneIx a.zone with
    | none => s.answer src seq .noSuchZone []
    | some z =>
      if ¬ (s.caller src).mayZone a.zone then s.answer src seq .notPermitted []
      else if s.busy ∧ a.hasSetpoint = true then s.answer src seq .busy []
      else State.finishTaken s src seq (takenStatus (a.row (s.row z)).2) (fun t => t.setZoneData z) (s.changeZone z a)

/-- READ_ZONE (R176). -/
def execReadZone (src seq : Byte) (payload : List Byte) (s : State) : Result :=
  .next <| s.request src seq (parseReadZone payload) Caller.mayRead fun zone =>
    match zoneIx zone with
    | none => s.answer src seq .noSuchZone []
    | some z => s.answer src seq .ok (s.zoneData z)

/-- READ_STATUS (R177). -/
def execReadStatus (src seq : Byte) (payload : List Byte) (s : State) : Result :=
  .next <| s.request src seq (parseReadStatus payload) Caller.mayRead fun a =>
    s.answer src seq .ok (s.statusSection a.1 a.2)

/-- READ_FIELD (R178). -/
def execReadField (src seq : Byte) (payload : List Byte) (s : State) : Result :=
  .next <| s.request src seq (parseReadField payload) Caller.mayReadField fun a =>
    match fieldCheck a.1 a.2.1 a.2.2 with
    | some st => s.answer src seq st []
    | none => s.answer src seq .ok (bytes3 (s.tables.read a.1 a.2.1 a.2.2))

/-- WRITE_FIELD (R179, R180). -/
def execWriteField (src seq : Byte) (payload : List Byte) (s : State) : Result :=
  .next <| s.request src seq (parseWriteField payload) Caller.mayServe fun a =>
    if s.busy then s.answer src seq .busy []
    else match fieldCheck a.1 a.2.1 a.2.2.1 with
      | some st => s.answer src seq st []
      | none =>
        match s.tables.write a.1 a.2.1 a.2.2.1 a.2.2.2 with
        | none => s.answer src seq .duplicate []
        | some w =>
          State.finishTaken s src seq (takenStatus w.2) (State.writeData a.1 a.2.1 a.2.2.1)
            (State.wrote s a.1 a.2.1 a.2.2.1 { s with tables := w.1 })

/-- READ_METER (R181). -/
def execReadMeter (src seq : Byte) (payload : List Byte) (s : State) : Result :=
  .next <| s.request src seq (parseReadMeter payload) Caller.mayReadMeter fun a =>
    if h : a.1 < 23 then s.answer src seq .ok (meterData (s.meters.get ⟨a.1, h⟩) a.2)
    else s.answer src seq .noSuchMeter []

/-- READ_FAULTS (R181). -/
def execReadFaults (src seq : Byte) (payload : List Byte) (s : State) : Result :=
  .next <| s.request src seq (parseReadFaults payload) Caller.mayServe fun start =>
    s.answer src seq .ok (s.faultsData start)

/-- CLEAR_LOCKOUT (R108, R182). -/
def execClearLockout (src seq : Byte) (payload : List Byte) (s : State) : Result :=
  .next <| s.request src seq (parseEmpty payload) Caller.mayServe fun _ =>
    if s.seq.state = .hardLockout then State.answerChanges s (s.clearHard.answer src seq .ok [])
    else s.answer src seq .notLocked []

/-- SAVE_CONFIG (R183). -/
def execSaveConfig (src seq : Byte) (payload : List Byte) (s : State) : Result :=
  .next <| s.request src seq (parseEmpty payload) Caller.mayServe fun _ =>
    if s.busy then s.answer src seq .busy []
    else if s.store.wpHigh then s.answer src seq .storeProtected []
    else ({ s with store := { s.store with saving := .save } } : State).answer src seq .ok []

/-- RESTART (R184, R196). -/
def execRestart (src seq : Byte) (payload : List Byte) (s : State) : Result :=
  .next <| s.request src seq (parseEmpty payload) Caller.mayServe fun _ =>
    if s.busy then s.answer src seq .busy []
    else (s.answer src seq .ok []).beginRestart

end Sys2Proof.Machine
end

