-- ==== Sys2Proof/Machine/RoomBus.lean ====
section
/-! DEFINITION. What the Room Port does with a frame that is no well-formed request: the CRC drop (R153), a frame that is
ignored (R156), a ZONE_REPORT (R12 to R15), a malformed request (R173), and a frame to a proxy with its held-reply match,
filter and pass-through (R157, R163 to R167). -/

namespace Sys2Proof.Machine

/-- ROOM_CRC_DROP: a run of bytes that fails the tests of R153 counts on meter 8. -/
def execRoomCrcDrop (bytes : List Byte) (s : State) : Result :=
  .next (if (Frame.parse bytes).isNone then s.count 8 else s)

/-- ROOM_FRAME_IGNORED: neither counted nor answered (R156). -/
def execRoomFrameIgnored (_frame : Frame) (s : State) : Result := .next s

/-! ZONE_REPORT. -/

/-- The one source address a zone takes reports from (R12). -/
def ZoneRow.acceptedSource (r : ZoneRow) : Option Int :=
  if r.sensorAddress ≠ 0 then some r.sensorAddress
  else if r.consoleAddress ≠ 0 then some r.consoleAddress
  else none

/-- The enabled zone whose report this is, if the report passes the tests of R13. -/
def State.reportedZone (s : State) (src : Byte) (zone : Nat) : Option (Fin 12) :=
  match zoneIx zone with
  | some z => if (s.row z).enabled ∧ (s.row z).acceptedSource = some (src.toNat : Int) then some z else none
  | none => none

/-- The record after an accepted report, before its calls are evaluated (R15). -/
def ZoneRec.report (r : ZoneRec) (temp : Int) (humidity : Option Int) (stale : Timer) : ZoneRec :=
  { r with temp := temp, humidity := humidity, reading := .fresh, age := 0, staleTimer := stale }

/-- The five steps of R15. -/
def State.takeReport (s : State) (z : Fin 12) (temp : Int) (humidity : Option Int) : State :=
  s.setZone z fun r =>
    (r.report temp humidity (s.timer (secs s.tables.plant.staleTime))).evaluate (s.row z) s.tables.plant

/-- ZONE_REPORT to the part's own address: accepted (R15), dropped with a count (R13), or discarded outside running
(R157). -/
def execZoneReport (src : Byte) (payload : List Byte) (s : State) : Result :=
  .next <|
    if s.fromRoomNode src ∧ s.phase = .running then
      match parseZoneReport payload with
      | none => s.count 8
      | some (zone, temp, humidity) =>
        match s.reportedZone src zone with
        | none => s.count 8
        | some z => State.answerChanges s (State.afterZones s false (s.takeReport z temp humidity))
    else s

/-- MALFORMED_REQUEST: a frame to the part's own address that is no ZONE_REPORT and fails the form check (R173). -/
def execMalformedRequest (src kind seq : Byte) (payload : List Byte) (s : State) : Result :=
  .next <|
    if kind = kindZoneReport ∨ wellFormedRequest kind payload = true then s
    else s.request src seq (none : Option Unit) (fun _ => true) fun _ => s

/-! PROXY_FRAME. -/

/-- A REPLY of length 1 from the proxy a frame was sent to (R158, R159). -/
def State.proxyReply (s : State) (f : Frame) (st : Status) : State := s.reply f.dst f.src f.seq st []

/-- The frame repeats the slot's request (R167). -/
def Slot.repeatedBy (f : Frame) : Slot → Bool
  | .free => false
  | .pending r p k q _ => f.src = r && f.dst = p && f.kind = k && f.seq = q
  | .ready r p k q _ _ => f.src = r && f.dst = p && f.kind = k && f.seq = q

/-- The slot whose request the frame repeats. -/
def RoomPort.repeated (p : RoomPort) (f : Frame) : Option (Fin 4) :=
  (List.finRange 4).find? fun i => (p.slots.get i).repeatedBy f

/-- A FREE slot: the one of lowest index (R166, log 14). -/
def RoomPort.freeSlot (p : RoomPort) : Option (Fin 4) := (List.finRange 4).find? fun i => p.slots.get i = .free

/-- Changes one held-reply slot. -/
def State.setSlot (s : State) (i : Fin 4) (x : Slot) : State :=
  { s with room := { s.room with slots := s.room.slots.set i x } }

/-- The answer to a repeat (R167). -/
def State.answerRepeat (s : State) (f : Frame) (i : Fin 4) : State :=
  match s.room.slots.get i with
  | .ready _ _ _ _ (some (k, p)) _ => (s.setSlot i .free).sendRoom ⟨f.src, f.dst, k, f.seq, p⟩
  | .ready _ _ _ _ none _ => (s.setSlot i .free).proxyReply f .noAnswer
  | _ => s.proxyReply f .deferred

/-- What a frame given PASS does (R163, R166). -/
def State.passThrough (s : State) (f : Frame) : State :=
  if f.dst.toNat - 64 ≤ 1 then s.proxyReply f .notPermitted
  else match s.room.freeSlot with
    | some i =>
      let s := s.setSlot i (.pending f.src f.dst f.kind f.seq (some f.payload))
      ({ s with room := { s.room with passThrough := s.room.passThrough ++ [i] } } : State).proxyReply f .deferred
    | none => s.proxyReply f .busy

/-- What a frame given SERVE is answered (R164). -/
def State.serve (s : State) (f : Frame) : State :=
  if isRead f.kind then
    match s.cached (f.dst.toNat - 64) with
    | some e => s.sendRoom ⟨f.src, f.dst, e.body.reply.1, f.seq, e.body.reply.2⟩
    | none => s.proxyReply f .noAnswer
  else s.proxyReply f .notPermitted

/-- A filter row matches a frame (R162, R163). -/
def FilterRow.matches (r : FilterRow) (f : Frame) : Bool :=
  r.num 1 ≤ f.src.toNat && f.src.toNat ≤ r.num 2 && r.num 3 ≤ f.dst.toNat && f.dst.toNat ≤ r.num 4
  && (r.num 5 = 0 || (r.num 5 = 1 && isRead f.kind) || (r.num 5 = 2 && !isRead f.kind))

/-- The code of the action of the first matching row, or the default action (R163). -/
def State.filterAction (s : State) (f : Frame) : Int :=
  match s.tables.filter.data.find? fun r => r.matches f with
  | some r => r.num 6
  | none => s.tables.report.defaultAction

/-- The classification of a proxy frame and what its action does (R163, R164). -/
def State.classify (s : State) (f : Frame) : State :=
  let action := s.filterAction f
  if action = 0 then s.passThrough f
  else if action = 1 then s.serve f
  else if action = 2 then s.proxyReply f .notPermitted
  else s

/-- A frame to a proxy from a source that R156 does not discard. -/
def State.toProxy (s : State) (f : Frame) : Bool :=
  64 ≤ f.dst.toNat && f.dst.toNat ≤ 126 && s.fromRoomNode f.src

/-- PROXY_FRAME: BUSY outside running (R157), then the held-reply match (R167), then the filter (R163). -/
def execProxyFrame (frame : Frame) (s : State) : Result :=
  .next <|
    if s.toProxy frame then
      if s.phase ≠ .running then s.proxyReply frame .busy
      else match s.room.repeated frame with
        | some i => s.answerRepeat frame i
        | none => s.classify frame
    else s

end Sys2Proof.Machine
end

