-- ==== Sys2Proof/Machine/StartUp.lean ====
section
/-! DEFINITION. The meanings of POWER_ON (R194) and LOADING_END (R195). -/

namespace Sys2Proof.Machine

/-- POWER_ON, in any phase: a power cut during STOPPING or LOADING is a power-on (R194, R197). -/
def execPowerOn (pagesWritten : Nat) (storeAnswers storeWp : Bool) (s : State) : Result :=
  .next (s.powerOn pagesWritten storeAnswers storeWp)

/-- LOADING_END, while the part is loading (R195). -/
def execLoadingEnd (s : State) : Result :=
  .next (if s.phase = .loading then s.endLoading else s)

end Sys2Proof.Machine
end

