-- ==== Sys2Proof/Machine/StoreEvents.lean ====
section
/-! DEFINITION. The store's own events: the end of a save (R192), the end of a meter write (R193), and a page that fails
(R192). -/

namespace Sys2Proof.Machine

/-- What was being written is done: the store holds it and the last meter write is now (R192, R193). -/
def State.writeDone (s : State) (pages : Nat) : State :=
  { s with
    store := { s.store with
      cells := s.cellsAfterPages pages, saving := .idle, lastMeterWrite := s.uptime } }

/-- What was being written ends at a page that failed; the pages before it stand (R192). -/
def State.writeFailed (s : State) (page : Nat) : State :=
  { s with store := { s.store with cells := s.cellsAfterPages page, saving := .idle } }

/-- SAVE_COMPLETE: the last of the 95 pages has been written (R192). -/
def execSaveComplete (s : State) : Result :=
  .next (if s.store.saving = .save then { s.writeDone 95 with region := none } else s)

/-- METER_WRITE_COMPLETE: the page of the meter region has been written (R193). -/
def execMeterWriteComplete (s : State) : Result :=
  .next <|
    match s.store.saving with
    | .meterWrite _ => s.writeDone 1
    | _ => s

/-- STORE_PAGE_FAIL: the store has not accepted a page of the save (0..94) or the one page of a meter write (R192). -/
def execStorePageFail (page : Nat) (s : State) : Result :=
  .next <|
    match s.store.saving with
    | .idle => s
    | .save => if page < 95 then { s.writeFailed page with region := none } else s
    | .meterWrite _ => if page = 0 then s.writeFailed 0 else s

end Sys2Proof.Machine
end

