-- ==== Sys2Proof/Machine/ZoneEvents.lean ====
section
/-! DEFINITION. The Zone Monitor's own events: the stale timer (R17), the override's expiry and minute count (R28), the
reading age (R16) and the quiet entry timer (R33). -/

namespace Sys2Proof.Machine

/-- The record of a zone that becomes STALE (R17). -/
def ZoneRec.goStale (r : ZoneRec) : ZoneRec :=
  { r with reading := .stale, acc := 0, dem := 0, dryDem := 0, staleTimer := .stopped }

/-- STALE_TIMER_EXPIRY (R17). -/
def execStaleTimerExpiry (zone : Nat) (s : State) : Result :=
  .next <|
    match zoneIx zone with
    | none => s
    | some z =>
      if (s.zone z).staleTimer.isRunning ∧ (s.zone z).reading = .fresh then
        (s.setZone z ZoneRec.goStale).fault .sensorStale zone (s.zone z).age
      else s

/-- An override's remaining minutes have run out: the base occupancy applies again (R28). -/
def State.expireOverride (s : State) (z : Fin 12) : State :=
  let t := (s.setZone z fun r => { r with override := none, minuteCount := .stopped }).refreshZone z
  State.answerChanges s (State.afterZones s false t)

/-- OVERRIDE_EXPIRY: the last minute of a running override has run (R28). -/
def execOverrideExpiry (zone : Nat) (s : State) : Result :=
  .next <|
    match zoneIx zone with
    | none => s
    | some z =>
      if (s.zone z).minuteCount.isRunning ∧ (s.zone z).override = some 1 then s.expireOverride z else s

/-- The count's next whole minute (R28). -/
def Timer.nextMinute : Timer → Timer
  | .stopped => .stopped
  | .running due => .running (due + 60000)

/-- OVERRIDE_MINUTE_COUNT: a running override loses a minute; its last minute is its expiry (R28). -/
def execOverrideMinuteCount (zone : Nat) (s : State) : Result :=
  .next <|
    match zoneIx zone with
    | none => s
    | some z =>
      match (s.zone z).minuteCount.isRunning, (s.zone z).override with
      | true, some n =>
        if n ≤ 1 then s.expireOverride z
        else s.setZone z fun r => { r with override := some (n - 1), minuteCount := r.minuteCount.nextMinute }
      | _, _ => s

/-- One second of a record's reading age (R16). -/
def ZoneRec.growOlder (r : ZoneRec) : ZoneRec :=
  if r.reading = .never then r else { r with age := min 65535 (r.age + 1) }

/-- READING_AGE_COUNT (R16). -/
def execReadingAgeCount (s : State) : Result := .next { s with zones := s.zones.map ZoneRec.growOlder }

/-- QUIET_ENTRY_TIMER_EXPIRY (R33). -/
def execQuietEntryTimerExpiry (s : State) : Result :=
  .next <|
    if s.quietTimer.isRunning ∧ s.economy = .active then { s with economy := .quiet, quietTimer := .stopped } else s

end Sys2Proof.Machine
end

