-- ==== Sys2Proof/Machine/Dispatch.lean ====
section
/-! DEFINITION. The dispatch: one arm per command, each a direct call of its meaning. -/

namespace Sys2Proof.Machine

def exec (i : Instr) (s : State) : Host.Outcome State Fault Refusal :=
  match i with
  | .powerOn pagesWritten storeAnswers storeWp => Sys2Proof.Machine.execPowerOn pagesWritten storeAnswers storeWp s
  | .loadingEnd => Sys2Proof.Machine.execLoadingEnd s
  | .roomCrcDrop bytes => Sys2Proof.Machine.execRoomCrcDrop bytes s
  | .roomFrameIgnored frame => Sys2Proof.Machine.execRoomFrameIgnored frame s
  | .zoneReport src payload => Sys2Proof.Machine.execZoneReport src payload s
  | .setZone src seq payload => Sys2Proof.Machine.execSetZone src seq payload s
  | .readZone src seq payload => Sys2Proof.Machine.execReadZone src seq payload s
  | .readStatus src seq payload => Sys2Proof.Machine.execReadStatus src seq payload s
  | .readField src seq payload => Sys2Proof.Machine.execReadField src seq payload s
  | .writeField src seq payload => Sys2Proof.Machine.execWriteField src seq payload s
  | .readMeter src seq payload => Sys2Proof.Machine.execReadMeter src seq payload s
  | .readFaults src seq payload => Sys2Proof.Machine.execReadFaults src seq payload s
  | .clearLockout src seq payload => Sys2Proof.Machine.execClearLockout src seq payload s
  | .saveConfig src seq payload => Sys2Proof.Machine.execSaveConfig src seq payload s
  | .restart src seq payload => Sys2Proof.Machine.execRestart src seq payload s
  | .malformedRequest src kind seq payload => Sys2Proof.Machine.execMalformedRequest src kind seq payload s
  | .proxyFrame frame => Sys2Proof.Machine.execProxyFrame frame s
  | .passTimerExpiry => Sys2Proof.Machine.execPassTimerExpiry s
  | .changeoverLockoutExpiry => Sys2Proof.Machine.execChangeoverLockoutExpiry s
  | .staleTimerExpiry zone => Sys2Proof.Machine.execStaleTimerExpiry zone s
  | .overrideExpiry zone => Sys2Proof.Machine.execOverrideExpiry zone s
  | .quietEntryTimerExpiry => Sys2Proof.Machine.execQuietEntryTimerExpiry s
  | .uptimeMinute => Sys2Proof.Machine.execUptimeMinute s
  | .minRunExpiry => Sys2Proof.Machine.execMinRunExpiry s
  | .minOffExpiry => Sys2Proof.Machine.execMinOffExpiry s
  | .equalizeExpiry => Sys2Proof.Machine.execEqualizeExpiry s
  | .overrunExpiry => Sys2Proof.Machine.execOverrunExpiry s
  | .coldDraftHoldExpiry => Sys2Proof.Machine.execColdDraftHoldExpiry s
  | .coilFreezeTimerExpiry => Sys2Proof.Machine.execCoilFreezeTimerExpiry s
  | .lockoutTimeExpiry cause => Sys2Proof.Machine.execLockoutTimeExpiry cause s
  | .defrostPauseExpiry => Sys2Proof.Machine.execDefrostPauseExpiry s
  | .defrostMaxExpiry => Sys2Proof.Machine.execDefrostMaxExpiry s
  | .slotGrant => Sys2Proof.Machine.execSlotGrant s
  | .replyWindowExpiry => Sys2Proof.Machine.execReplyWindowExpiry s
  | .plantCrcDrop bytes => Sys2Proof.Machine.execPlantCrcDrop bytes s
  | .plantFrameDiscard frame => Sys2Proof.Machine.execPlantFrameDiscard frame s
  | .accept dst src seq payload => Sys2Proof.Machine.execAccept dst src seq payload s
  | .refuse dst src seq payload => Sys2Proof.Machine.execRefuse dst src seq payload s
  | .forwardedReply frame => Sys2Proof.Machine.execForwardedReply frame s
  | .indoorReply dst src seq payload => Sys2Proof.Machine.execIndoorReply dst src seq payload s
  | .outdoorReply dst src seq payload => Sys2Proof.Machine.execOutdoorReply dst src seq payload s
  | .damperReply dst src seq payload => Sys2Proof.Machine.execDamperReply dst src seq payload s
  | .travelTimeout zone => Sys2Proof.Machine.execTravelTimeout zone s
  | .rampTimeout => Sys2Proof.Machine.execRampTimeout s
  | .valveTimeout => Sys2Proof.Machine.execValveTimeout s
  | .pollRoundDue => Sys2Proof.Machine.execPollRoundDue s
  | .discardTimerExpiry slot => Sys2Proof.Machine.execDiscardTimerExpiry slot s
  | .periodTimerExpiry => Sys2Proof.Machine.execPeriodTimerExpiry s
  | .holdoffTimerExpiry => Sys2Proof.Machine.execHoldoffTimerExpiry s
  | .saveComplete => Sys2Proof.Machine.execSaveComplete s
  | .meterWriteComplete => Sys2Proof.Machine.execMeterWriteComplete s
  | .storePageFail page => Sys2Proof.Machine.execStorePageFail page s
  | .overrideMinuteCount zone => Sys2Proof.Machine.execOverrideMinuteCount zone s
  | .readingAgeCount => Sys2Proof.Machine.execReadingAgeCount s

end Sys2Proof.Machine
end

