-- ==== Sys2Proof/Machine/Delivery.lean ====
section
/-! DEFINITION. Which command a run of bytes is when it arrives on a bus: the tests of R153, the delivery of R156 on the
room bus, and the reply tests of R135 on the plant bus. The sender of commands uses these; exec takes the command they
name. -/

namespace Sys2Proof.Machine

/-- The command of a request kind; `none` for a kind that is no request (R173). -/
def requestOf (f : Frame) : Option Instr :=
  if f.kind = kindSetZone then some (.setZone f.src f.seq f.payload)
  else if f.kind = kindReadZone then some (.readZone f.src f.seq f.payload)
  else if f.kind = kindReadStatus then some (.readStatus f.src f.seq f.payload)
  else if f.kind = kindReadField then some (.readField f.src f.seq f.payload)
  else if f.kind = kindWriteField then some (.writeField f.src f.seq f.payload)
  else if f.kind = kindReadMeter then some (.readMeter f.src f.seq f.payload)
  else if f.kind = kindReadFaults then some (.readFaults f.src f.seq f.payload)
  else if f.kind = kindClearLockout then some (.clearLockout f.src f.seq f.payload)
  else if f.kind = kindSaveConfig then some (.saveConfig f.src f.seq f.payload)
  else if f.kind = kindRestart then some (.restart f.src f.seq f.payload)
  else none

/-- A frame to the part's own address: a report, a request, or a malformed request (R156, R173). -/
def ownCommand (f : Frame) : Instr :=
  if f.kind = kindZoneReport then .zoneReport f.src f.payload
  else if wellFormedRequest f.kind f.payload then
    (requestOf f).getD (.malformedRequest f.src f.kind f.seq f.payload)
  else .malformedRequest f.src f.kind f.seq f.payload

/-- The command that a run of bytes on the room bus is (R153, R156). DESIGN CHOICE (log 42): a frame whose destination or source
byte is 128 or more, for which R156 has no row, is ignored without a count and an answer. -/
def State.roomCommand (s : State) (bytes : List Byte) : Instr :=
  match Frame.parse bytes with
  | none => .roomCrcDrop bytes
  | some f =>
    if s.fromRoomNode f.src then
      if f.dst = s.ownAddress then ownCommand f
      else if s.toProxy f then .proxyFrame f
      else .roomFrameIgnored f
    else .roomFrameIgnored f

/-- A frame on the plant bus that answers the exchange `x` by its header: the reply it awaits, or a frame discarded for its
kind or length (R135, R155). -/
def replyCommand (x : Exchange) (f : Frame) : Instr :=
  if x.what.awaited.takes f.kind f.payload then
    match x.what.awaited with
    | .command =>
      if f.kind = kindAccept then .accept f.dst f.src f.seq f.payload else .refuse f.dst f.src f.seq f.payload
    | .indoor => .indoorReply f.dst f.src f.seq f.payload
    | .outdoor => .outdoorReply f.dst f.src f.seq f.payload
    | .damper => .damperReply f.dst f.src f.seq f.payload
    | .any => .forwardedReply f
  else .plantFrameDiscard f

/-- The command that a run of bytes on the plant bus is (R135, R153). -/
def State.plantCommand (s : State) (bytes : List Byte) : Instr :=
  match Frame.parse bytes with
  | none => .plantCrcDrop bytes
  | some f =>
    match s.answeredBy f.dst f.src f.seq with
    | some x => replyCommand x f
    | none => .plantFrameDiscard f

end Sys2Proof.Machine
end

