-- ==== Sys2Proof/Safety.lean ====
section
/-! DEFINITION. What a safe state of the part is, in the terms the statements use: the promises the manual makes of every
moment, one predicate each. -/

namespace Sys2Proof.Machine

/-! The store and the tables. -/

/-- The store's bytes keep their canonical form, a meter write in progress carries at most meters 0..7, and meters are
taken for the meter region only during a save, all eight of them (R161, R192, R193). -/
def State.storeSafe (s : State) : Prop :=
  Memory.wf s.store.cells ∧ (∀ ms, s.store.saving = .meterWrite ms → ms.length ≤ 8)
    ∧ ∀ ms, s.region = some ms → s.store.saving = .save ∧ ms.length = 8

/-- Every field of every table lies within its range (R2, R72, R162, R171, R185, R191). -/
def Tables.inRange (T : Tables) : Prop :=
  ∀ t row f, fieldExists t row f = true →
    (fieldSpec t row f).lo ≤ T.read t row f ∧ T.read t row f ≤ (fieldSpec t row f).hi

/-- The cool setpoint of each row is at least 20 above its heat setpoint (R3). -/
def Tables.separated (T : Tables) : Prop := ∀ z : Fin 12, (T.zone.get z).sh + 20 ≤ (T.zone.get z).sc

/-- No zone stands twice in the relief list (R72). -/
def Tables.reliefDistinct (T : Tables) : Prop :=
  ∀ i j : Fin 12, i ≠ j → T.relief.get i ≠ 0 → T.relief.get i ≠ T.relief.get j

/-- What the tables promise. -/
def Tables.safe (T : Tables) : Prop := T.inRange ∧ T.separated ∧ T.reliefDistinct

/-! Zones. -/

/-- A record's calls stand only while its zone is enabled and has a reading, a HEAT call is at least 1 below its setpoint,
a COOL call at least 1 above it, the two effective setpoints are at least 20 apart, and the demands lie within 0..1000 and
are 0 without the call that carries them (R10, R19, R21, R22, R23). -/
def ZoneRec.callsSafe (r : ZoneRec) (row : ZoneRow) : Prop :=
  (r.calling = true → row.enabled = true ∧ r.reading ≠ .never)
  ∧ (r.heat = true → r.temp + 1 ≤ r.shEff) ∧ (r.cool = true → r.scEff + 1 ≤ r.temp) ∧ r.shEff + 20 ≤ r.scEff
  ∧ (0 ≤ r.acc ∧ r.acc ≤ 1000) ∧ (0 ≤ r.dem ∧ r.dem ≤ 1000) ∧ (0 ≤ r.dryDem ∧ r.dryDem ≤ 1000)
  ∧ (r.heat = false → r.cool = false → r.acc = 0 ∧ r.dem = 0) ∧ (r.dry = false → r.dryDem = 0)

/-- Every zone's calls are as R22 promises. -/
def State.callsSafe (s : State) : Prop := ∀ z, (s.zone z).callsSafe (s.row z)

/-! The command queue. -/

/-- At most one WAITING entry and at most one ISSUED or MOVING entry of each actuator (R130). -/
abbrev Queue.disciplined (q : Queue) : Prop :=
  q.entries.Pairwise fun x y => x.act = y.act → (x.st = .waiting ↔ y.st ≠ .waiting)

/-! The plant sequencer. -/

/-- The plant state is one whose compressor runs: RUN, MELT or WARMING (R86, R113). -/
def Sequencer.compressing (q : Sequencer) : Prop :=
  q.state = .run ∨ (q.state = .defrost ∧ q.phase = some .melt) ∨ (q.state = .recovery ∧ q.phase = some .warming)

/-- But in STOPPING the compressor is commanded above 0 in RUN, MELT and WARMING, where the min off timer does not run, and
to 0 in every other state; no pass timer runs in STOPPING (R86, R89, R113, R196). -/
def State.minOffSafe (s : State) : Prop :=
  (s.phase ≠ .stopping → s.seq.compressing → s.seq.minOff = .stopped ∧ 0 < s.seq.cmdQ)
  ∧ (s.phase ≠ .stopping → ¬ s.seq.compressing → s.seq.cmdQ = 0)
  ∧ (s.phase = .stopping → s.engine.passTimer = .stopped)

/-- The defrost phases of a plant state (R113). -/
def PlantState.admits : PlantState → Option DefrostPhase → Bool
  | .defrost, some .pauseIn | .defrost, some .valveIn | .defrost, some .startIn | .defrost, some .melt
  | .defrost, some .pauseOut => true
  | .recovery, some .valveOut | .recovery, some .startOut | .recovery, some .warming => true
  | .defrost, _ | .recovery, _ => false
  | _, p => p.isNone

/-- The sequencer's record is of a piece: a run side exactly in RUN, outstanding causes and a displayed cause exactly in
LOCKOUT, the phase that the state admits, a defrost shadow exactly in DEFROST and RECOVERY and then the newest result, a
newest result in RUN, the min run and coil freeze holds in RUN alone, and the cold-draft hold in RUN on the HEAT side and in
WARMING alone (R85, R90, R97, R101, R113). -/
def Sequencer.recordSafe (q : Sequencer) : Prop :=
  (q.runSide.isSome = true ↔ q.state = .run)
  ∧ (q.causes.any = true ↔ q.state = .lockout) ∧ (q.displayed.isSome = true ↔ q.state = .lockout)
  ∧ q.state.admits q.phase = true
  ∧ (q.defrosting = true → q.shadow.isSome = true ∧ q.newest = q.shadow) ∧ (q.defrosting = false → q.shadow = none)
  ∧ (q.state = .run → q.newest.isSome = true)
  ∧ (q.state ≠ .run → q.minRunHold = false ∧ q.coilFreezeHold = false)
  ∧ (q.coldDraftHold = true → q.state = .run ∧ q.runSide = some .heat ∨ q.phase = some .warming)

/-! Counts. -/

/-- Every count stays where it stops (R16, R42, R51, R60, R107, R111, R113, R147, R198, R199, R201). -/
def State.countsSafe (s : State) : Prop :=
  s.uptime ≤ Config.max32 ∧ (∀ m, s.meters.get m ≤ Config.max32) ∧ s.faults.length ≤ 16
  ∧ s.seq.history.length ≤ 3 ∧ s.seq.frostTime ≤ 65535 ∧ s.seq.incomplete ≤ 1
  ∧ s.engine.lowCount ≤ 3 ∧ s.engine.passNumber ≤ Config.max32
  ∧ (∀ z, (s.zone z).age ≤ 65535) ∧ (∀ z, s.engine.starve.get z ≤ 65535) ∧ (∀ t, s.port.missed.get t ≤ 3)

/-! The poll cache. -/

/-- A room temperature, an airflow or a position, and a capacity within the range of their frame fields (R155). -/
def CacheBody.inRange : CacheBody → Prop
  | .indoor d => (∀ x ∈ [d.returnAir, d.supplyAir, d.coil], -400 ≤ x ∧ x ≤ 850) ∧ 0 ≤ d.actualFan ∧ d.actualFan ≤ 100
  | .outdoor d => (∀ x ∈ [d.outdoorAir, d.coil], -400 ≤ x ∧ x ≤ 850) ∧ 0 ≤ d.actualCapacity ∧ d.actualCapacity ≤ 1000
  | .damper d => 0 ≤ d.position ∧ d.position ≤ 100

/-- Every entry of the poll cache lies within the ranges of its fields (R148, R155). -/
def State.cacheSafe (s : State) : Prop := ∀ e ∈ s.port.cache, e.body.inRange

/-! What the statements about commands speak of. -/

/-- The state after exactly one REPLY to a request sent to the part's own address: its status code and its data (R158,
R159). -/
def State.replied (s : State) (src seq : Byte) (payload : List Byte) : State :=
  { s with roomOut := s.roomOut ++ [⟨src, s.ownAddress, 0x0E, seq, payload⟩] }

/-- The state after exactly one REPLY of one byte from the proxy a frame was sent to (R158, R159). -/
def State.proxyAnswered (s : State) (f : Frame) (status : Byte) : State :=
  { s with roomOut := s.roomOut ++ [⟨f.src, f.dst, 0x0E, f.seq, [status]⟩] }

/-- A meter after one more event (R198). -/
def State.metered (s : State) (m : Fin 23) : State :=
  { s with meters := s.meters.set m (min 4294967295 (s.meters.get m + 1)) }

/-- A wake from `s` has led to `t`: ACTIVE, exactly one pass, the pass timer at the pass period from now, a poll round in
progress (R34, R35). -/
def State.woken (s t : State) : Prop :=
  t.economy = .active ∧ t.engine.passNumber = (s.engine.passNumber + 1) % 4294967296
  ∧ t.engine.passTimer = .running (s.clock + secs t.tables.plant.passPeriod) ∧ t.port.round.isSome = true

/-- The frames sent on the room bus from `s` to `t` are `sent` and status broadcasts after it (R158). -/
def State.sentOnly (s t : State) (sent : List Frame) : Prop :=
  ∃ bs : List Frame, t.roomOut = s.roomOut ++ sent ++ bs ∧ ∀ b ∈ bs, b.dst = 127 ∧ b.kind = 0x0F

/-- The effective setpoints of a record are those of its row, its occupancy and the three AWAY parameters (R19). -/
def ZoneRec.setpointsOf (r : ZoneRec) (row : ZoneRow) (p : PlantTable) : Prop :=
  if r.override.isSome = true ∨ r.base = .occupied then r.shEff = row.sh ∧ r.scEff = row.sc ∧ r.rhsEff = row.rhs
  else if r.base = .setback then
    r.shEff = max 50 (row.sh - row.setback) ∧ r.scEff = min 380 (row.sc + row.setback) ∧ r.rhsEff = row.rhs
  else r.shEff = p.num 54 ∧ r.scEff = p.num 55 ∧ r.rhsEff = p.num 53

/-- The calls of `r` after an evaluation that found the calls of `r0` (R22, R23). -/
def ZoneRec.evaluatedFrom (r0 r : ZoneRec) (p : PlantTable) : Prop :=
  (r.heat = true ↔ (r0.heat = true ∧ 0 < r.shEff - r.temp) ∨ p.num 3 ≤ r.shEff - r.temp)
  ∧ (r.cool = true ↔ (r0.cool = true ∧ 0 < r.temp - r.scEff) ∨ p.num 3 ≤ r.temp - r.scEff)
  ∧ (r.dry = true ↔ ∃ h, r.humidity = some h ∧ ((r0.dry = true ∧ r.rhsEff < h) ∨ r.rhsEff + p.num 4 ≤ h))

/-- The demands of `r` after an evaluation that found the record `r0` (R24): accumulator and demand start from 0 where HEAT
or COOL cleared or set, the dry demand where DRY cleared or HEAT set; otherwise each stands. -/
def ZoneRec.demandsFrom (r0 r : ZoneRec) (p : PlantTable) : Prop :=
  let eh := r.shEff - r.temp
  let ec := r.temp - r.scEff
  let heatSets := (r0.heat = false ∨ eh ≤ 0) ∧ p.num 3 ≤ eh
  let changed := (r0.heat = true ∧ eh ≤ 0) ∨ (r0.cool = true ∧ ec ≤ 0) ∨ heatSets
    ∨ ((r0.cool = false ∨ ec ≤ 0) ∧ p.num 3 ≤ ec)
  let dryEnds := (r0.dry = true ∧ ∀ h, r.humidity = some h → h ≤ r.rhsEff) ∨ heatSets
  (changed → r.acc = 0 ∧ r.dem = 0) ∧ (¬ changed → r.acc = r0.acc ∧ r.dem = r0.dem)
  ∧ (dryEnds → r.dryDem = 0) ∧ (¬ dryEnds → r.dryDem = r0.dryDem)

/-- A disabled zone, or one that has no reading yet, keeps the calls and demands of `r0` (R21, R22). -/
def ZoneRec.callsKept (r0 r : ZoneRec) : Prop :=
  r.heat = r0.heat ∧ r.cool = r0.cool ∧ r.dry = r0.dry ∧ r.acc = r0.acc ∧ r.dem = r0.dem ∧ r.dryDem = r0.dryDem

/-- From `s` to `t` zone `z` has had its effective setpoints recomputed and, enabled with a reading, its calls evaluated (R19 to
R24). The reading, the occupancy and the override stand; only a wake's pass changes more of the record. -/
def State.refreshed (s t : State) (z : Fin 12) : Prop :=
  let r := s.zone z
  let u := t.zone z
  let evaluated := (t.row z).enabled = true ∧ r.reading ≠ .never
  u = { r with
      shEff := u.shEff, scEff := u.scEff, rhsEff := u.rhsEff, heat := u.heat, cool := u.cool, dry := u.dry
      acc := u.acc, dem := u.dem, dryDem := u.dryDem, dryExcluded := u.dryExcluded, target := u.target }
  ∧ u.setpointsOf (t.row z) t.tables.plant
  ∧ (evaluated → ZoneRec.evaluatedFrom r u t.tables.plant)
  ∧ (¬ evaluated → ZoneRec.callsKept r u)
  ∧ (s.economy = .active →
      (evaluated → ZoneRec.demandsFrom r u t.tables.plant) ∧ u.dryExcluded = r.dryExcluded ∧ u.target = r.target)

/-- From `s` to `t` zone `z` has kept its reading, occupancy, override, setpoints and calls, and but for a wake's pass its
whole record. -/
def State.zoneKept (s t : State) (z : Fin 12) : Prop :=
  let r := s.zone z
  let u := t.zone z
  u = { r with acc := u.acc, dem := u.dem, dryDem := u.dryDem, dryExcluded := u.dryExcluded, target := u.target }
  ∧ (s.economy = .active → u = r)

/-- A WAITING command of the actuator with this value and origin stands in the queue (R130). -/
def Queue.holds (q : Queue) (a : Actuator) (v : Int) (o : Origin) : Prop :=
  ∃ e ∈ q.entries, e.act = a ∧ e.st = .waiting ∧ e.value = v ∧ e.origin = o

/-! The pass (chapters 3 and 4): what the rules make of the part as it stands in `s`, with the demands that stage 1 has
left in the records of `t`. -/

/-- Demand-eligible: enabled, voting and FRESH (R44). -/
def State.votes (s : State) (z : Fin 12) : Bool := (s.row z).enabled && (s.row z).voting && (s.zone z).reading = .fresh

/-- Dry demand is formed for the zone (R44, R47). -/
def State.dries (s : State) (z : Fin 12) : Bool := s.votes z && (s.zone z).dry && !(s.zone z).heat

/-- Stage 1 (R45, R46, R47): the accumulator, the demand and the dry demand of each enabled zone. -/
def State.demanded (s t : State) : Prop :=
  ∀ z, (s.row z).enabled = true →
    let r := s.zone z
    let u := t.zone z
    let p := s.tables.plant
    let e := if r.heat then r.shEff - r.temp else r.temp - r.scEff
    let called := s.votes z = true ∧ (r.heat = true ∨ r.cool = true)
    (called → u.acc = clamp 0 1000 (r.acc + e * p.num 2) ∧ u.dem = clamp 0 1000 (e * 1000 / p.num 1 + u.acc))
    ∧ (¬ called → u.acc = r.acc ∧ u.dem = r.dem)
    ∧ (s.dries z = true → ∀ h, r.humidity = some h →
        u.dryDem = clamp 0 1000 ((h - r.rhsEff) * 1000 / p.num 5))
    ∧ (s.dries z = false → u.dryDem = r.dryDem)

/-- A sum of `v` over the zones of which `c` holds (R1). -/
def sumOver (c : Fin 12 → Bool) (v : Fin 12 → Int) : Int := ((List.finRange 12).map fun z => if c z then v z else 0).sum

/-- The weight of a zone (field 3). -/
def State.weight (s : State) (z : Fin 12) : Int := (s.row z).num 3

/-- The weight of a zone in the vote: twice its weight at the starvation limit (R52). -/
def State.agedWeight (s : State) (z : Fin 12) : Int :=
  if s.tables.plant.num 8 ≤ s.engine.starve.get z then 2 * s.weight z else s.weight z

/-- Σ w × D over the demand-eligible zones that hold HEAT, with the weights `w` (R48, R52). -/
def State.heatSum (s t : State) (w : Fin 12 → Int) : Int :=
  sumOver (fun z => s.votes z && (s.zone z).heat) fun z => w z * (t.zone z).dem

/-- Σ w × D over the demand-eligible zones that hold COOL (R48, R52). -/
def State.coolSum (s t : State) (w : Fin 12 → Int) : Int :=
  sumOver (fun z => s.votes z && (s.zone z).cool) fun z => w z * (t.zone z).dem

/-- Σ w × Dd over the zones with dry demand (R48, R52). -/
def State.drySum (s t : State) (w : Fin 12 → Int) : Int := sumOver s.dries fun z => w z * (t.zone z).dryDem

/-- Σ w over the demand-eligible zones, calling or not, and over the enabled zones (R48). -/
def State.wtot (s : State) : Int := sumOver s.votes s.weight
def State.wall (s : State) : Int := sumOver (fun z => (s.row z).enabled) s.weight

/-- The side is permitted by the held outdoor air, where there is one (R49). -/
def State.permits (s : State) (d : Side) : Bool :=
  match s.outdoorEntry, d with
  | none, _ => true
  | some x, .heat => x.outdoorAir < s.tables.plant.num 9
  | some x, .cool => s.tables.plant.num 10 < x.outdoorAir

/-- The vote sum of a side, 0 where it is blocked (R49, R52). -/
def State.voteSum (s t : State) (d : Side) : Int :=
  if s.permits d then
    match d with
    | .heat => s.heatSum t s.agedWeight
    | .cool => s.coolSum t s.agedWeight + s.drySum t s.agedWeight
  else 0

/-- The unaged sums with a blocked side at 0 (R48, R49). -/
def State.openHeat (s t : State) : Int := if s.permits .heat then s.heatSum t s.weight else 0
def State.openCool (s t : State) : Int := if s.permits .cool then s.coolSum t s.weight else 0
def State.openDry (s t : State) : Int := if s.permits .cool then s.drySum t s.weight else 0

/-- The margin test or the empty-side test wants the served side `d` left for the other (R54, R55). -/
def State.wantsLeft (s t : State) : Side → Prop
  | .cool => s.voteSum t .heat ≠ 0 ∧ s.voteSum t .cool + s.tables.plant.num 6 ≤ s.voteSum t .heat
      ∨ s.openCool t = 0 ∧ s.openDry t = 0 ∧ 0 < s.openHeat t
  | .heat => s.voteSum t .cool ≠ 0 ∧ s.voteSum t .heat + s.tables.plant.num 6 ≤ s.voteSum t .cool
      ∨ s.openHeat t = 0 ∧ (0 < s.openCool t ∨ 0 < s.openDry t)

/-- The vote (R49, R53 to R56): the served side entered from NONE, left by a changeover or held; the two flags; the
changeover lockout timer started where the pass enters a side. -/
def State.voted (s t : State) (r : PassResult) : Prop :=
  let vh := s.voteSum t .heat
  let vc := s.voteSum t .cool
  let cold := (s.outdoorEntry.map fun x => decide (x.outdoorAir < s.tables.plant.num 56)).getD false
  (s.engine.served = none →
    r.served = (if vc = 0 ∧ vh = 0 then none else if vh < vc then some .cool else if vc < vh then some .heat
      else if cold then some .heat else some .cool) ∧ r.changeoverHeld = false)
  ∧ (∀ d, s.engine.served = some d →
    (¬ s.wantsLeft t d → r.served = some d ∧ r.changeoverHeld = false)
    ∧ (s.wantsLeft t d → s.engine.lockout ≠ .stopped → r.served = some d ∧ r.changeoverHeld = true)
    ∧ (s.wantsLeft t d → s.engine.lockout = .stopped →
        r.served = some (if d = .heat then .cool else .heat) ∧ r.changeoverHeld = false))
  ∧ (r.sideBlocked = true ↔ s.permits .heat = false ∧ s.heatSum t s.weight ≠ 0
      ∨ s.permits .cool = false ∧ s.coolSum t s.weight + s.drySum t s.weight ≠ 0)
  ∧ t.engine.served = r.served
  ∧ t.engine.lockout = (if r.served ≠ s.engine.served then .running (s.clock + mins (s.tables.plant.num 7))
      else s.engine.lockout)

/-- Starvation (R50): the minutes and the mark of every zone by its call side (R44) and the served side of the pass. -/
def State.starved (s t : State) (r : PassResult) : Prop :=
  ∀ z,
    let rec_ := s.zone z
    let call : Option Side := if rec_.heat then some .heat else if rec_.cool ∨ rec_.dry then some .cool else none
    let zero := call = none ∨ (s.row z).enabled = false ∨ (s.row z).voting = false ∨ call = r.served
    let waits := rec_.reading = .fresh ∧ (∀ d, call = some d → s.permits d = true) ∧ r.served ≠ none
    t.engine.starve.get z = (if zero then 0 else s.engine.starve.get z)
    ∧ (t.engine.mark.get z = true ↔ ¬ zero ∧ waits)

/-- The side mode, OFF for none (R57). -/
def State.sideMode (s t : State) : Option Side → Mode
  | some .cool => if 0 < s.openCool t then .cool else if 0 < s.openDry t then .dry else .off
  | some .heat => if 0 < s.openHeat t then .heat else .off
  | none => .off

/-- This pass changes the served side by a changeover (R54, R55). -/
def State.changesOver (s : State) (r : PassResult) : Bool := s.engine.served.isSome && r.served ≠ s.engine.served

/-- Q_raw (R58). -/
def State.qRaw (s t : State) (m : Mode) : Int :=
  if s.wtot = 0 then 0 else (if m = .heat then s.heatSum t s.weight else s.coolSum t s.weight) / s.wtot

/-- The zone is dry-excluded in side mode DRY (R61). -/
def State.tooCool (s : State) (z : Fin 12) : Bool :=
  s.dries z && (s.zone z).temp ≤ (s.zone z).shEff + s.tables.plant.num 49

/-- The capacity of stage 4, before the airflow stages (R58 to R61), the low-capacity count being the one the pass leaves
in `t`. -/
def State.stageQ (s t : State) (r : PassResult) : Int :=
  let p := s.tables.plant
  let m := s.sideMode t r.served
  let raw := s.qRaw t m
  if m = .cool ∨ m = .heat then
    if t.engine.lowCount = 3 then 0
    else if s.engine.prevQ = 0 ∨ s.changesOver r = true then
      clamp (p.num 11) 1000 (min raw (p.num 11 + p.num 13))
    else clamp (p.num 11) 1000 (clamp (s.engine.prevQ - p.num 13) (s.engine.prevQ + p.num 13) raw)
  else if m = .dry then if ∀ z, s.dries z = true → s.tooCool z = true then 0 else max (p.num 14) (p.num 11)
  else 0

/-- Capacity (R57 to R62): the low-capacity count, the mode by side mode and stage 4's capacity, and the dry-excluded
flags. -/
def State.capacitated (s t : State) (r : PassResult) : Prop :=
  let m := s.sideMode t r.served
  t.engine.lowCount = (if (m = .cool ∨ m = .heat) ∧ s.changesOver r = false ∧ s.qRaw t m < s.tables.plant.num 12 then
      min 3 (s.engine.lowCount + 1) else 0)
  ∧ r.mode = (if 0 < s.stageQ t r then m else if s.tables.plant.num 19 = 1 then .fan else .off)
  ∧ (∀ z, (s.row z).enabled = true → ((t.zone z).dryExcluded = true ↔ m = .dry ∧ s.tooCool z = true))

/-- The target of an enabled zone before relief (R66, R67). -/
def State.ownTarget (s t : State) (r : PassResult) (z : Fin 12) : Int :=
  let pmin := (s.row z).num 7
  if (s.zone z).reading = .stale then pmin
  else if r.mode = .fan then 100
  else if s.votes z = true ∧ (r.mode = .cool ∧ (s.zone z).cool = true ∨ r.mode = .heat ∧ (s.zone z).heat = true) then
    clamp pmin 100 (20 + (t.zone z).dem * 80 / 1000)
  else if r.mode = .dry ∧ s.dries z = true ∧ s.tooCool z = false then s.tables.plant.num 50
  else pmin

/-- The zone's target is that of row 6 of R66. -/
def State.unserved (s : State) (r : PassResult) (z : Fin 12) : Bool :=
  (s.zone z).reading ≠ .stale && r.mode ≠ .fan
    && !(s.votes z && (r.mode = .cool && (s.zone z).cool || r.mode = .heat && (s.zone z).heat))
    && !(r.mode = .dry && s.dries z && !s.tooCool z)

/-- The status of the zone's damper actuator. -/
def State.damperStatus (s : State) (z : Fin 12) : ActStatus := s.queue.status.get (Actuator.ix (.damper z))

/-- The zone's damper address lies outside the damper field (R68). -/
def State.offField (s : State) (z : Fin 12) : Bool :=
  s.tables.plant.num 44 ≤ (s.row z).num 4 || 63 < s.tables.plant.num 43 + (s.row z).num 4

/-- The damper is trusted to reach its target (R68). -/
def State.trusted (s : State) (z : Fin 12) : Bool :=
  !s.offField z && s.damperStatus z ≠ .unresponsive && s.damperStatus z ≠ .stalled

/-- The open capacity under the targets `f` (R68, R69, R70). -/
def State.openUnder (s : State) (f : Fin 12 → Int) : Int :=
  sumOver (fun z => (s.row z).enabled) fun z => s.weight z *
    if s.trusted z then f z
    else if !s.offField z && s.damperStatus z = .stalled then
      s.cachedPosition (s.tables.plant.num 43 + (s.row z).num 4).toNat
    else 0

/-- The required open capacity (R70). -/
def State.openRequired (s : State) : Int := max (s.tables.plant.num 21) (s.tables.plant.num 16) * s.wall

/-- Relief may take the zone: enabled, trusted and not STALE (R75). -/
def State.forcible (s : State) (z : Fin 12) : Bool :=
  (s.row z).enabled && s.trusted z && (s.zone z).reading ≠ .stale

/-- The relief list step may raise the zone (R73, R74). -/
def State.relievable (s t : State) (r : PassResult) (z : Fin 12) : Bool :=
  s.forcible z && (s.row z).num 5 = 1 && (s.zone z).reading = .fresh && s.ownTarget t r z < (s.row z).num 6
    && match r.served with
      | some .cool => (s.zone z).scEff - s.tables.plant.num 22 < (s.zone z).temp
      | some .heat => (s.zone z).temp < (s.zone z).shEff + s.tables.plant.num 22
      | none => true

/-- The zones of the relief list that the relief list step may raise, in list order (R72, R73). -/
def State.listed (s t : State) (r : PassResult) : List (Fin 12) :=
  (List.finRange 12).flatMap fun i =>
    (List.finRange 12).filter fun z => s.tables.relief.get i = (z.val : Int) + 1 && s.relievable t r z

/-- The zones of the first round of forced relief, and those that only its second round opens, in zone order (R75). -/
def State.firstRound (s t : State) (r : PassResult) : List (Fin 12) :=
  (List.finRange 12).filter fun z => s.forcible z && s.unserved r z && !(s.listed t r).contains z
def State.secondRound (s t : State) (r : PassResult) : List (Fin 12) :=
  (List.finRange 12).filter fun z =>
    s.forcible z && !s.unserved r z && s.ownTarget t r z < 100 && !(s.listed t r).contains z

/-- The target that a result carries for a zone. -/
def PassResult.target (r : PassResult) (z : Fin 12) : Int := (r.targets.get z).getD 0

/-- Targets and relief (R66, R71 to R77). Relief is applied where the open capacity is short and air is to move. It raises
zones of the relief list in list order to their relief positions, then by force the zones not yet opened and last the
others, each to 100; it stops as soon as the open capacity is enough, and where it ends short every zone it may take stands
at 100. -/
def State.allocated (s t : State) (r : PassResult) : Prop :=
  let own := s.ownTarget t r
  let list := s.listed t r
  let first := s.firstRound t r
  let reopened (z : Fin 12) : Prop := list.contains z = true ∧ r.target z ≠ (s.row z).num 6
  let second (z : Fin 12) : Prop := reopened z ∨ (s.secondRound t r).contains z = true ∧ r.relief.contains z = true
  let applied := s.openUnder own < s.openRequired ∧ r.mode ≠ .off
  (¬ applied → r.relief = [] ∧ r.forcedRelief = false)
  ∧ (∀ z, (s.row z).enabled = true → r.relief.contains z = false → r.target z = own z)
  ∧ (applied →
    r.relief = (list ++ first ++ s.secondRound t r).take r.relief.length
    ∧ (r.forcedRelief = false → r.relief.length ≤ list.length)
    ∧ (r.forcedRelief = true → list.length ≤ r.relief.length)
    ∧ (∀ z, r.relief.contains z = true → own z < r.target z
        ∧ (r.target z = 100 ∨ list.contains z = true ∧ r.target z = (s.row z).num 6)
        ∧ (r.forcedRelief = false → r.target z = (s.row z).num 6))
    ∧ (∀ z, r.relief.contains z = true → second z → (∀ y, first.contains y = true → r.relief.contains y = true)
        ∧ ∀ y, y < z → s.forcible y = true → r.target y = 100)
    ∧ (r.forcedRelief = true → ∃ z, r.relief.contains z = true ∧ (list.contains z = false ∨ reopened z))
    ∧ (s.openUnder r.target < s.openRequired → ∀ z, s.forcible z = true → r.target z = 100)
    ∧ (r.relief ≠ [] → ∃ z, r.relief.contains z = true ∧
        s.openUnder (fun y => if y = z then (if reopened z then (s.row z).num 6 else own z) else r.target y)
          < s.openRequired))

/-- Airflow and the airflow cap (R77 to R82): the base airflow less the latent boost, the allowance of the open duct, the
stop of a capacity whose airflow falls below Fmin, and the final capacity. -/
def State.aired (s t : State) (r : PassResult) : Prop :=
  let p := s.tables.plant
  let q := s.stageQ t r
  let a := s.openUnder r.target
  let humid := (((List.finRange 12).filter s.dries).map fun z => (t.zone z).dryDem).foldl max 0
  let base := match r.mode with
    | .cool => max (p.num 16)
        (p.num 16 + (q - p.num 11) * (100 - p.num 16) / (1000 - p.num 11) - p.num 20 * humid / 1000)
    | .heat => p.num 16 + (q - p.num 11) * (100 - p.num 16) / (1000 - p.num 11)
    | .dry => p.num 17
    | .fan => p.num 18
    | .off => 0
  let allow := if s.wall = 0 then 0 else a / s.wall
  let stop := 0 < q ∧ min base allow < p.num 16
  let short := s.openUnder (s.ownTarget t r) < s.openRequired ∧ r.mode ≠ .off ∧ a < s.openRequired
  r.f = (if stop then (if p.num 18 ≤ allow then allow else 0) else min base allow)
  ∧ r.q = (if stop ∨ q = 0 then 0 else min q (max (p.num 11) (10 * r.f)))
  ∧ (r.airflowShort = true ↔ short ∨ stop)

/-! What the sequencer makes of an event (chapters 5 and 6): its record after the event, and the commands it hands to the
Actuator Queue in the order of R88. -/

/-- A command handed to the Actuator Queue (R88). -/
structure Command where
  act    : Actuator
  value  : Int
  origin : Origin
  deriving DecidableEq, Repr

/-- The sequencer's record after an event and the commands it handed over, in order. -/
structure Plan where
  record : Sequencer
  sent   : List Command
  deriving DecidableEq, Repr

/-- The queue after it has taken commands in order (R131). -/
def Queue.taking (k : Queue) (cs : List Command) : Queue := cs.foldl (fun k c => k.enqueue c.act c.value c.origin) k

/-- The store after an event that leaves the record `q`: a meter write begun where the compressor has been stopped and one is
due, with the meters as they stood at the stop (R193; log 20). -/
def State.storeAfter (s : State) (q : Sequencer) : StoreLoader :=
  if 0 < s.seq.cmdQ ∧ q.cmdQ = 0 ∧ s.store.saving = .idle ∧ s.store.wpHigh = false
      ∧ 60 ≤ s.uptime - s.store.lastMeterWrite then { s.store with saving := .meterWrite s.meters8 } else s.store

/-- The event of `s` has led to `t` as the plan says, from the queue `k`: the record, the queue, a start counted on meter 1
(R89) and a meter write begun at a stop where one is due (R193). -/
def State.follows (s t : State) (k : Queue) (a : Plan) : Prop :=
  t.seq = a.record ∧ t.queue = k.taking a.sent
  ∧ t.meters = (if s.seq.cmdQ = 0 ∧ a.record.cmdQ ≠ 0 then s.meters.set 1 (min 4294967295 (s.meters.get 1 + 1))
      else s.meters)
  ∧ t.store = s.storeAfter a.record

/-- The event of `s` has led to `t` as a plan that enters DEFROST says: the record, the queue, a defrost counted on meter 5
(R114) and a meter write begun at the stop where one is due (R193). -/
def State.entersDefrost (s t : State) (a : Plan) : Prop :=
  t.seq = a.record ∧ t.queue = s.queue.taking a.sent ∧ t.store = s.storeAfter a.record
  ∧ t.meters = s.meters.set 5 (min 4294967295 (s.meters.get 5 + 1))

/-- The event of `s` has led to `t` as the plan says, the mark of a reported outdoor fault code cleared with it (R104) and
whatever the Actuator Queue made of the reply before it: the record, every command waiting in the queue, a start counted on
meter 1 (R89) and a defrost entered on meter 5 (R114). -/
def State.yields (s t : State) (a : Plan) : Prop :=
  t.seq = { a.record with faultMark := false } ∧ (∀ c ∈ a.sent, t.queue.holds c.act c.value c.origin)
  ∧ t.meters = (if s.seq.cmdQ = 0 ∧ a.record.cmdQ ≠ 0 then s.meters.set 1 (min 4294967295 (s.meters.get 1 + 1))
      else if s.seq.state = .run ∧ a.record.state = .defrost then s.meters.set 5 (min 4294967295 (s.meters.get 5 + 1))
      else s.meters)

/-- What the sequencer needs to take a valve's report: the tables within their ranges and its own record of a piece. -/
def State.valveReady (s : State) : Prop := s.tables.safe ∧ s.seq.recordSafe ∧ s.minOffSafe

/-- The actuator statuses after a poll reply filed from `addr` by the node of the actuators `own`: these and every damper that
stands at the address have answered, which ends every status but STALLED (R142). -/
def State.statusAnswered (s : State) (addr : Nat) (own : List Actuator) : Tab 16 ActStatus :=
  Tab.ofFn fun i =>
    if s.queue.status.get i ≠ .stalled ∧ ((∃ a ∈ own, a.ix = i) ∨ ∃ z, Actuator.ix (.damper z) = i ∧ s.damperAt addr z = true)
    then .ready else s.queue.status.get i

/-- Where the outdoor board's reply leaves the status of its compressor or valve (R140, R141, R142): READY where the actuator
was not STALLED, or where the reply meets the value of its MOVING command or, with none in flight, of its last issued one
(log 21); STALLED otherwise. -/
def State.statusReturns (s t : State) (a : Actuator) (meets : Int → Prop) : Prop :=
  let met : Prop := (∃ e, s.queue.inFlight a = some e ∧ e.st = .moving ∧ meets e.value)
    ∨ s.queue.inFlight a = none ∧ ∃ v, s.queue.lastIssued.get a.ix = some v ∧ meets v
  (s.queue.status.get a.ix ≠ .stalled ∨ met → t.queue.status.get a.ix = .ready)
  ∧ (s.queue.status.get a.ix = .stalled → ¬ met → t.queue.status.get a.ix = .stalled)

/-- The poll cache with a reply filed (R148): it replaces the entry of its address, and a board's own older entry wherever
that stood (log 16). -/
def State.filed (s : State) (addr : Nat) (b : CacheBody) : List CacheEntry :=
  (s.port.cache.filter fun e => !(e.addr = addr || e.body.sameBoard b)) ++ [⟨addr, s.clock / 1000, b⟩]

/-- The address at which a target of the poll round is polled, `none` where it is passed over: a damper is polled at the
address of its entry in flight, or else where its zone is enabled and its address lies within the damper field (R146). -/
def State.pollAddress (s : State) (t : Fin 14) : Option Nat :=
  if h : 2 ≤ t.val then
    let z : Fin 12 := ⟨t.val - 2, by omega⟩
    match s.queue.inFlight (.damper z) with
    | some e => e.addr
    | none => if (s.row z).enabled = true ∧ s.offField z = false then some (s.tables.plant.num 43 + (s.row z).num 4).toNat
        else none
  else some (if t = 0 then s.indoorAddress else s.outdoorAddress)

/-- The missed-poll counts where the turn of target `n` comes at address `a`: 0 for an address it was not polled at last
(R147). -/
def State.missedAtTurn (s : State) (missed : Tab 14 Nat) (n : Fin 14) (a : Nat) : Tab 14 Nat :=
  if s.port.lastAddr.get n = some a then missed else missed.set n 0

/-- The exchange of target `t`, polled at `addr` in a round that had polled `polled`, has ended in `u` with the counts `missed`
and the cache `k`. The turn passes to the next target that is not passed over. With no target left the round ends: the damper
entries of addresses not polled in it leave the cache, and a round that waits begins (R146, R147, R148; logs 24, 34). -/
def State.turnPasses (s u : State) (t : Fin 14) (addr : Nat) (polled : List Nat) (k : List CacheEntry)
    (missed : Tab 14 Nat) : Prop :=
  let p := u.port
  let stand : Prop := p.roundTimer = s.port.roundTimer ∧ p.roundWaiting = s.port.roundWaiting
  (∀ n a, t < n → (∀ m, t < m → m < n → u.pollAddress m = none) → u.pollAddress n = some a →
    p.round = some ⟨n, a, addr :: polled⟩ ∧ p.cache = k ∧ p.missed = s.missedAtTurn missed n a
    ∧ p.lastAddr = s.port.lastAddr.set n (some a) ∧ stand)
  ∧ ((∀ n, t < n → u.pollAddress n = none) →
    p.cache = k.filter (fun e => e.body.damper?.isNone || (addr :: polled).contains e.addr)
    ∧ (s.port.roundWaiting = false → p.round = none ∧ p.missed = missed ∧ p.lastAddr = s.port.lastAddr ∧ stand)
    ∧ (s.port.roundWaiting = true → p.round = some ⟨0, s.indoorAddress, []⟩ ∧ p.roundWaiting = false
      ∧ p.missed = s.missedAtTurn missed 0 s.indoorAddress ∧ p.lastAddr = s.port.lastAddr.set 0 (some s.indoorAddress)
      ∧ p.roundTimer = .running (s.clock + secs (if s.economy = .active then s.tables.plant.pollInterval
          else s.tables.plant.quietPollInterval))))

/-- The result that DEFROST and RECOVERY hold; any result in another state (R113). -/
def Sequencer.awaits (q : Sequencer) (r : PassResult) : Prop := q.defrosting = true → q.newest = some r

/-- The damper targets of a result, in zone order, for the zones enabled now (R7, R88). -/
def State.damperCommands (s : State) (r : PassResult) : List Command :=
  (List.finRange 12).filterMap fun z =>
    if (s.row z).enabled then (r.targets.get z).map fun v => ⟨.damper z, v, .pass⟩ else none

/-- The compressor value formed from a result: clamp(Qmin, 1000, min(Q, capacity limit)) (R88). -/
def State.formedQ (s : State) (q : Sequencer) (r : PassResult) : Int :=
  clamp s.tables.plant.qmin 1000 (min r.q q.capLimit)

/-- Fan 0, or Fcirc under fan policy CONTINUOUS (R91, R98). -/
def State.waitFan (s : State) : Int := if s.tables.plant.num 19 = 1 then s.tables.plant.fcirc else 0

/-- A result with Q 0 carried out as FAN_ONLY or IDLE (R92). -/
def State.restPlan (s : State) (q : Sequencer) (r : PassResult) : Plan :=
  ⟨{ q with inForce := some r, state := if 0 < r.f then .fanOnly else .idle, cmdF := r.f },
    s.damperCommands r ++ [⟨.fan, r.f, .pass⟩]⟩

/-- The fan of a start: 0 on the HEAT side, the result's F on the COOL side (R94). -/
def startFan (r : PassResult) (d : Side) : Command :=
  ⟨.fan, if d = .heat then 0 else r.f, if d = .heat then .sequencer else .pass⟩

/-- A start on side `d` (R89, R94, R101). -/
def State.startPlan (s : State) (q : Sequencer) (r : PassResult) (d : Side) : Plan :=
  let v := s.formedQ q r
  ⟨{ q with
      state := .run, runSide := some d, inForce := some r, cmdQ := v, cmdF := (startFan r d).value
      minRun := .running (s.clock + secs s.tables.plant.minRun)
      minRunHold := false, coilFreezeHold := false, coilFreeze := .stopped
      coldDraftHold := decide (d = .heat)
      coldDraft := if d = .heat then .running (s.clock + secs s.tables.plant.coldDraftHold) else .stopped },
    s.damperCommands r ++ [startFan r d, ⟨.compressor, v, .pass⟩]⟩

/-- A valve command to side `d` (R87, R160). -/
def valveTo (d : Side) : Command := ⟨.valve, if d = .heat then 1 else 0, .sequencer⟩

/-- The start test (R91). -/
def State.startTestPlan (s : State) (q : Sequencer) (r : PassResult) : Plan :=
  let waits : Sequencer := { q with state := .startWait }
  match r.served with
  | none => ⟨waits, []⟩
  | some d =>
    if q.valveDir = some d then if q.minOff = .stopped then s.startPlan q r d else ⟨waits, []⟩
    else if q.inFlight = none ∧ q.equalize = .stopped then
      ⟨{ waits with valveDir := none, inFlight := some d }, [valveTo d]⟩
    else ⟨waits, []⟩

/-- A result taken as IDLE and FAN_ONLY take one (R91, R92). -/
def State.idlePlan (s : State) (q : Sequencer) (r : PassResult) : Plan :=
  if 0 < r.q then
    let a := s.startTestPlan { q with valveFailed := false } r
    if a.record.state = .startWait ∧ q.cmdF ≠ s.waitFan then
      ⟨{ a.record with cmdF := s.waitFan }, a.sent ++ [⟨.fan, s.waitFan, .sequencer⟩]⟩
    else a
  else s.restPlan q r

/-- The newest result `r` with Q > 0 taken at the end of the overrun (R98, R99). -/
def State.overrunPlan (s : State) (q : Sequencer) (r : PassResult) : Plan :=
  let q : Sequencer := { q with valveFailed := false }
  let fan : Command := ⟨.fan, s.waitFan, .sequencer⟩
  match r.served with
  | none => ⟨{ q with state := if q.equalize = .stopped then .startWait else .equalize, cmdF := s.waitFan }, [fan]⟩
  | some d =>
    if q.valveDir = some d then
      if q.minOff = .stopped then
        let a := s.startPlan q r d
        ⟨a.record, s.damperCommands r ++ [fan, startFan r d, ⟨.compressor, s.formedQ q r, .pass⟩]⟩
      else ⟨{ q with state := .startWait, cmdF := s.waitFan }, [fan]⟩
    else if q.equalize ≠ .stopped then ⟨{ q with state := .equalize, cmdF := s.waitFan }, [fan]⟩
    else if q.inFlight = none then
      ⟨{ q with state := .startWait, cmdF := s.waitFan, valveDir := none, inFlight := some d }, [fan, valveTo d]⟩
    else ⟨{ q with state := .startWait, cmdF := s.waitFan }, [fan]⟩

/-- A stop from RUN with the newest result `r` (R89, R97, R98). -/
def State.stopPlan (s : State) (q : Sequencer) (r : PassResult) : Plan :=
  let p := s.tables.plant
  let q : Sequencer := { q with
    cmdQ := 0, runSide := none, minRun := .stopped, coldDraft := .stopped, coilFreeze := .stopped
    minRunHold := false, coldDraftHold := false, coilFreezeHold := false
    minOff := .running (s.clock + secs p.minOff), equalize := .running (s.clock + secs p.equalize) }
  let stop : Command := ⟨.compressor, 0, .sequencer⟩
  if 0 < p.overrun then
    ⟨{ q with state := .overrun, cmdF := p.fmin, overrun := .running (s.clock + secs p.overrun) },
      [stop, ⟨.fan, p.fmin, .sequencer⟩]⟩
  else if 0 < r.q then
    let a := s.overrunPlan q r
    ⟨a.record, stop :: a.sent⟩
  else ⟨(s.restPlan q r).record, [stop, ⟨.fan, r.f, .pass⟩] ++ s.damperCommands r⟩

/-- The capacity limit at a result taken in RUN (R102). -/
def State.limitInRun (s : State) (q : Sequencer) : Int :=
  let p := s.tables.plant
  match q.runSide, s.indoorEntry with
  | some .heat, some d =>
    if p.supplyHighLimit < d.supplyAir then max p.qmin (q.capLimit - 100)
    else if d.supplyAir < p.supplyHighLimit - 50 then min 1000 (q.capLimit + 100)
    else q.capLimit
  | _, _ => min 1000 (q.capLimit + 100)

/-- The result `r` taken in RUN, where it is the newest: carried out, held at Qmin while min run runs, or the stop (R95, R96,
R97, R101, R102, R103). -/
def State.runPlan (s : State) (q : Sequencer) (r : PassResult) : Plan :=
  let q : Sequencer := { q with capLimit := s.limitInRun q }
  let qmin := s.tables.plant.qmin
  if 0 < r.q ∧ r.served = q.runSide then
    let v := if q.coilFreezeHold then qmin else s.formedQ q r
    let plant : Command := ⟨.compressor, v, if q.coilFreezeHold then .sequencer else .pass⟩
    let fan : List Command := if q.coldDraftHold then [] else [⟨.fan, r.f, .pass⟩]
    ⟨{ q with inForce := some r, minRunHold := false, cmdQ := v, cmdF := if q.coldDraftHold then q.cmdF else r.f },
      if v = qmin ∧ v < q.cmdQ then [plant] ++ fan ++ s.damperCommands r else s.damperCommands r ++ fan ++ [plant]⟩
  else if q.minRun ≠ .stopped then
    if qmin < q.cmdQ then ⟨{ q with minRunHold := true, cmdQ := qmin }, [⟨.compressor, qmin, .sequencer⟩]⟩
    else ⟨{ q with minRunHold := true }, []⟩
  else s.stopPlan q r

/-- A pass result taken in each plant state (R90 and the rules it gathers, R102, R105, R108, R118). -/
def State.resultPlan (s : State) (r : PassResult) : Plan :=
  let n : Sequencer := { s.seq with newest := some r, valveFailed := false }
  let q : Sequencer := { n with capLimit := min 1000 (n.capLimit + 100) }
  match s.seq.state with
  | .idle | .fanOnly => s.idlePlan q r
  | .startWait => if 0 < r.q then s.startTestPlan q r else s.restPlan q r
  | .run => s.runPlan n r
  | .overrun | .hardLockout => ⟨q, []⟩
  | .equalize =>
    if 0 < r.q then if q.valveDir.isSome = true ∧ q.valveDir = r.served then s.startTestPlan q r else ⟨q, []⟩
    else s.restPlan q r
  | .defrost | .recovery => ⟨{ q with shadow := some r }, []⟩
  | .lockout => if 0 < q.cmdF then ⟨{ q with inForce := some r }, s.damperCommands r⟩ else ⟨q, []⟩

/-- The melt started (R89, R117). -/
def State.meltPlan (s : State) (q : Sequencer) : Plan :=
  let p := s.tables.plant
  ⟨{ q with
      cmdQ := p.qdef, minRun := .running (s.clock + secs p.minRun), phase := some .melt
      maxTimer := .running (s.clock + mins p.defrostMax) },
    [⟨.compressor, p.qdef, .sequencer⟩]⟩

/-- DEFROST entered with the newest result in the shadow (R89, R114). -/
def State.defrostPlan (s : State) (q : Sequencer) : Plan :=
  let p := s.tables.plant
  ⟨{ q with
      shadow := q.newest, state := .defrost, phase := some .pauseIn, cmdQ := 0, cmdF := 0, runSide := none
      minRun := .stopped, coldDraft := .stopped, coilFreeze := .stopped
      minRunHold := false, coldDraftHold := false, coilFreezeHold := false
      minOff := .running (s.clock + secs p.minOff), equalize := .running (s.clock + secs p.equalize)
      pauseTimer := .running (s.clock + secs p.defrostPause) },
    [⟨.compressor, 0, .sequencer⟩, ⟨.fan, 0, .sequencer⟩]⟩

/-- A defrost is wanted (R112). -/
def State.wantsDefrost (s : State) : Prop :=
  s.seq.state = .run ∧ s.seq.runSide = some .heat
  ∧ (s.tables.plant.defrostInterval ≤ (s.seq.frostTime : Int)
    ∨ (∃ d, s.outdoorEntry = some d ∧ d.frostFlag = true) ∧ s.tables.plant.defrostMinimum ≤ (s.seq.frostTime : Int))

/-- The result `r` carried out in RUN at the min run expiry, and the wanted defrost entered in the same event: an event that
stops the compressor, with the dampers last (R88, R95, R96, R112, R114; log 37). -/
def State.continuedDefrostPlan (s : State) (q : Sequencer) (r : PassResult) : Plan :=
  let v := if q.coilFreezeHold then s.tables.plant.qmin else s.formedQ { q with capLimit := s.limitInRun q } r
  let fan : List Command := if q.coldDraftHold then [] else [⟨.fan, r.f, .pass⟩]
  let a := s.defrostPlan { q with capLimit := s.limitInRun q, inForce := some r }
  ⟨a.record, ⟨.compressor, v, if q.coilFreezeHold then .sequencer else .pass⟩ :: fan ++ a.sent ++ s.damperCommands r⟩

/-- The ending of a melt (R89, R120). -/
def State.meltedPlan (s : State) (q : Sequencer) : Plan :=
  let p := s.tables.plant
  ⟨{ q with
      frostTime := 0, cmdQ := 0, defrostCtl := 0, phase := some .pauseOut, minRun := .stopped, maxTimer := .stopped
      minOff := .running (s.clock + secs p.minOff), equalize := .running (s.clock + secs p.equalize)
      pauseTimer := .running (s.clock + secs p.defrostPause) },
    [⟨.compressor, 0, .sequencer⟩, ⟨.defrost, 0, .sequencer⟩]⟩

/-- DEFROST or RECOVERY left for IDLE, which takes the shadow's result `r` (R121, R122). -/
def State.leavePlan (s : State) (q : Sequencer) (r : PassResult) : Plan :=
  s.idlePlan { q with shadow := none, phase := none, state := .idle } r

/-- A defrost ended by the shadow's result `r` (R121). -/
def State.shadowPlan (s : State) (q : Sequencer) (r : PassResult) : Plan :=
  if r.served = some .heat ∧ 0 < r.q then
    ⟨{ q with state := .recovery, phase := some .valveOut, valveDir := none, inFlight := some .heat }, [valveTo .heat]⟩
  else s.leavePlan q r

/-- The recovery start test with the shadow's result `r` (R89, R122). -/
def State.recoveryPlan (s : State) (q : Sequencer) (r : PassResult) : Plan :=
  let p := s.tables.plant
  if q.minOff ≠ .stopped then ⟨{ q with phase := some .startOut }, []⟩
  else if r.served = some .heat ∧ 0 < r.q then
    ⟨{ q with
        cmdQ := s.formedQ q r, minRun := .running (s.clock + secs p.minRun), phase := some .warming
        coldDraftHold := true, coldDraft := .running (s.clock + secs p.coldDraftHold) },
      [⟨.compressor, s.formedQ q r, .pass⟩]⟩
  else s.leavePlan q r

/-- A valve command has completed in direction `d`, with the newest result `r` (R87, R93, R116, R122). -/
def State.valveDonePlan (s : State) (d : Side) (r : PassResult) : Plan :=
  let q : Sequencer := { s.seq with valveDir := some d, inFlight := none }
  if q.state = .startWait then s.startTestPlan q r
  else if q.phase = some .valveIn then
    if q.minOff ≠ .stopped then ⟨{ q with phase := some .startIn }, []⟩ else s.meltPlan q
  else if q.phase = some .valveOut then s.recoveryPlan q r
  else ⟨q, []⟩

/-- A valve command has failed, with the newest result `r`: an abandoned defrost sends the defrost control to 0 and ends by
its shadow, a recovery ends without a start, and any other state only sees the direction UNKNOWN (R87, R93, R116, R122). -/
def State.valveLostPlan (s : State) (r : PassResult) : Plan :=
  let q : Sequencer := { s.seq with valveDir := none, inFlight := none, valveFailed := true }
  if q.phase = some .valveIn then
    let a := s.shadowPlan { q with defrostCtl := 0 } r
    ⟨a.record, ⟨.defrost, 0, .sequencer⟩ :: a.sent⟩
  else if q.phase = some .valveOut then
    let q : Sequencer := { q with shadow := none, phase := none }
    if 0 < r.q then ⟨{ q with state := .startWait }, []⟩ else s.restPlan q r
  else ⟨q, []⟩

end Sys2Proof.Machine

namespace Sys2Proof

/-- The frame of a request: source, kind, sequence and payload; `none` for every other command (R173). -/
def Instr.request? : Instr → Option (Byte × Byte × Byte × List Byte)
  | .setZone src seq p => some (src, 0x02, seq, p)
  | .readZone src seq p => some (src, 0x03, seq, p)
  | .readStatus src seq p => some (src, 0x04, seq, p)
  | .readField src seq p => some (src, 0x05, seq, p)
  | .writeField src seq p => some (src, 0x06, seq, p)
  | .readMeter src seq p => some (src, 0x07, seq, p)
  | .readFaults src seq p => some (src, 0x08, seq, p)
  | .clearLockout src seq p => some (src, 0x09, seq, p)
  | .saveConfig src seq p => some (src, 0x0A, seq, p)
  | .restart src seq p => some (src, 0x0B, seq, p)
  | _ => none

end Sys2Proof
end

