-- ==== Sys2Proof/WellFormed.lean ====
section
/-! DEFINITION. The commands whose operands the part's events can carry: frames as R153 allows them with the addresses
R156 and R135 deliver, payloads that pass the form check of the command's kind, and zone, slot, page and cause operands
within their ranges. exec gives every command a meaning, well formed or not (log 7). -/

namespace Sys2Proof

open Machine

namespace Instr

/-- A zone number (R9). -/
def zoneOk (z : Nat) : Bool := 1 ≤ z && z ≤ 12

/-- The address of a room node (R156). -/
def roomNodeOk (src : Byte) : Bool := 1 ≤ src.toNat && src.toNat ≤ 63

/-- A payload that fits a frame (R153). -/
def payloadOk (p : List Byte) : Bool := p.length ≤ Config.maxPayload

/-- A request's source and form (R156, R173). -/
def requestOk (src kind : Byte) (p : List Byte) : Bool := roomNodeOk src && wellFormedRequest kind p

/-- A plant frame to the part (R135, R153). -/
def plantReplyOk (dst src : Byte) (p : List Byte) : Bool :=
  dst = Config.plantAddress && 1 ≤ src.toNat && src.toNat ≤ 63 && payloadOk p

/-- The operand checks of each command. -/
def wellFormed : Instr → Bool
  | .powerOn pages _ _ => pages ≤ 95
  | .loadingEnd => true
  | .roomCrcDrop bytes => (Frame.parse bytes).isNone
  | .roomFrameIgnored f => payloadOk f.payload
  | .zoneReport src p => roomNodeOk src && payloadOk p
  | .setZone src _ p => requestOk src kindSetZone p
  | .readZone src _ p => requestOk src kindReadZone p
  | .readStatus src _ p => requestOk src kindReadStatus p
  | .readField src _ p => requestOk src kindReadField p
  | .writeField src _ p => requestOk src kindWriteField p
  | .readMeter src _ p => requestOk src kindReadMeter p
  | .readFaults src _ p => requestOk src kindReadFaults p
  | .clearLockout src _ p => requestOk src kindClearLockout p
  | .saveConfig src _ p => requestOk src kindSaveConfig p
  | .restart src _ p => requestOk src kindRestart p
  | .malformedRequest src kind _ p =>
    roomNodeOk src && kind ≠ kindZoneReport && !wellFormedRequest kind p && payloadOk p
  | .proxyFrame f => roomNodeOk f.src && 64 ≤ f.dst.toNat && f.dst.toNat ≤ 126 && payloadOk f.payload
  | .passTimerExpiry => true
  | .changeoverLockoutExpiry => true
  | .staleTimerExpiry z => zoneOk z
  | .overrideExpiry z => zoneOk z
  | .quietEntryTimerExpiry => true
  | .uptimeMinute => true
  | .minRunExpiry => true
  | .minOffExpiry => true
  | .equalizeExpiry => true
  | .overrunExpiry => true
  | .coldDraftHoldExpiry => true
  | .coilFreezeTimerExpiry => true
  | .lockoutTimeExpiry cause => cause ≠ .outdoorLost && cause ≠ .indoorLost
  | .defrostPauseExpiry => true
  | .defrostMaxExpiry => true
  | .slotGrant => true
  | .replyWindowExpiry => true
  | .plantCrcDrop bytes => (Frame.parse bytes).isNone
  | .plantFrameDiscard f => payloadOk f.payload
  | .accept dst src _ p => plantReplyOk dst src p
  | .refuse dst src _ p => plantReplyOk dst src p
  | .forwardedReply f => plantReplyOk f.dst f.src f.payload
  | .indoorReply dst src _ p => plantReplyOk dst src p
  | .outdoorReply dst src _ p => plantReplyOk dst src p
  | .damperReply dst src _ p => plantReplyOk dst src p
  | .travelTimeout z => zoneOk z
  | .rampTimeout => true
  | .valveTimeout => true
  | .pollRoundDue => true
  | .discardTimerExpiry slot => slot < 4
  | .periodTimerExpiry => true
  | .holdoffTimerExpiry => true
  | .saveComplete => true
  | .meterWriteComplete => true
  | .storePageFail page => page < 95
  | .overrideMinuteCount z => zoneOk z
  | .readingAgeCount => true

end Instr

end Sys2Proof
end

