-- ==== Sys2Proof/Certificates/Slice0/Obligations.lean ====
section
/-! DEFINITION. The statements about the part, in the order of the manual's blocks: steps and frames, start-up and the
store, zones, requests, the proxy, the pass, the sequencer's timers, the plant bus, reporting, and the invariants. -/

open Sys2Proof Sys2Proof.Machine

/-! Steps and frames. -/

/-- A step takes the command at the front of the queue and is that command's effect on the rest of the part. -/
def Obligations.StepRunsTheFrontCommand : Prop :=
  ∀ (s : State) (c : Instr) (rest : List Instr), s.pending = c :: rest → step s = exec c { s with pending := rest }

/-- On an empty queue a millisecond passes and nothing else happens. The model's choice (log 2). -/
def Obligations.EmptyQueueTicks : Prop :=
  ∀ s : State, s.pending = [] → step s = .next { s with clock := s.clock + 1 }

/-- A frame read back from its bytes is the frame: every header byte, every payload byte, at every length the format
admits, in exactly 7 bytes more than its payload (R153, R154). -/
def Obligations.FrameReadBack : Prop :=
  ∀ f : Frame, f.payload.length ≤ 48 →
    (Frame.bytes f).length = 7 + f.payload.length ∧ Frame.parse (Frame.bytes f) = some f

/-- The frame of every well-formed request or report of a room node, sent to the part's own address, arrives as that
command with its operands (R153, R156, R173). -/
def Obligations.RoomFrameIsItsCommand : Prop :=
  (∀ (s : State) (c : Instr) (src kind seq : Byte) (p : List Byte),
    c.request? = some (src, kind, seq, p) → c.wellFormed = true → src ≠ s.ownAddress →
    s.roomCommand (Frame.bytes ⟨s.ownAddress, src, kind, seq, p⟩) = c)
  ∧ ∀ (s : State) (src seq : Byte) (p : List Byte),
    Instr.wellFormed (.zoneReport src p) = true → src ≠ s.ownAddress →
    s.roomCommand (Frame.bytes ⟨s.ownAddress, src, 0x01, seq, p⟩) = .zoneReport src p

/-- A run of bytes that is no frame of at most 48 payload bytes with its CRC counts on meter 8 on the room bus and on
meter 9 on the plant bus, and does nothing else (R153, R198). A frame that is ignored or discarded does nothing at all
(R135, R156). -/
def Obligations.DroppedFrames : Prop :=
  (∀ (s : State) (bytes : List Byte), (∀ f : Frame, f.payload.length ≤ 48 → bytes ≠ Frame.bytes f) →
    exec (.roomCrcDrop bytes) s = .next (s.metered 8) ∧ exec (.plantCrcDrop bytes) s = .next (s.metered 9))
  ∧ ∀ (s : State) (f : Frame),
    exec (.roomFrameIgnored f) s = .next s ∧ exec (.plantFrameDiscard f) s = .next s

/-! Start-up and the store. -/

/-- Power-on (R194): the part is loading, with every block at its reset values and the tables and meters 0 to 7 read from
the store, which holds what the pages completed before the cut left in it (R192). A store that does not answer leaves
every table at its defaults and every meter at 0 (R189). That the command names the pages a cut left whole is the model's
choice (log 28), and so is the indoor coil temperature 0 of the sequencer's reset record (log 3); that the records are
formed from the loaded rows already here is its reading (log 35). -/
def Obligations.PowerOnResetsEveryBlock : Prop :=
  ∀ (s : State) (pages : Nat) (answers wp : Bool),
    let store : StoreLoader := ⟨s.cellsAfterPages pages, answers, wp, .idle, 0, 0⟩
    ∃ t, exec (.powerOn pages answers wp) s = .next t
      ∧ t.phase = .loading ∧ t.clock = 0 ∧ t.resetAt = 0 ∧ t.uptime = 0 ∧ t.faults = []
      ∧ t.region = none ∧ t.economy = .active ∧ t.quietTimer = .stopped
      ∧ t.tables = (loadTables store).1 ∧ t.store = { store with skipped := (loadTables store).2 }
      ∧ (∀ z, t.zone z = ZoneRec.reset (t.row z)) ∧ t.engine = Engine.reset
      ∧ t.seq = { Sequencer.reset with
          minOff := .running (secs t.tables.plant.minOff), equalize := .running (secs t.tables.plant.equalize) }
      ∧ t.queue = Queue.reset ∧ t.port = PlantPort.reset ∧ t.room = RoomPort.reset ∧ t.mgmt = Management.reset
      ∧ (∀ m : Fin 23, t.meters.get m = if m.val < 8 then (storedMeters store).getD m 0 else 0)
      ∧ (answers = false → t.tables = Tables.default ∧ ∀ m, t.meters.get m = 0)
      ∧ t.roomOut = s.roomOut ∧ t.plantOut = s.plantOut ∧ t.pending = s.pending

/-- The end of loading (R195): the reset records with the loaded setpoints, the pass timer, the first poll round, min off
and equalize found elapsed where they have run, the quiet entry timer where no zone is enabled, the skipped records' one
fault entry, and one broadcast with the timer of the reporting mode. That a frame carries the count before its rise (log
10) and that the two timers are only marked elapsed (log 27) are the model's readings. -/
def Obligations.LoadingEndStartsThePart : Prop :=
  ∀ s : State, s.phase = .loading → s.economy = .active →
    ∃ t, exec .loadingEnd s = .next t
      ∧ t.phase = .running ∧ (∀ z, t.zone z = ZoneRec.reset (s.row z))
      ∧ t.engine = { s.engine with passTimer := .running (s.clock + secs s.tables.plant.passPeriod) }
      ∧ t.seq = { s.seq with minOff := s.seq.minOff.settle s.clock, equalize := s.seq.equalize.settle s.clock }
      ∧ t.port.round = some ⟨0, s.indoorAddress, []⟩
      ∧ t.port.roundTimer = .running (s.clock + secs s.tables.plant.pollInterval)
      ∧ ((∀ z, (s.row z).enabled = false) → t.quietTimer = .running (s.clock + mins s.tables.plant.quietEntryTime))
      ∧ ((∃ z, (s.row z).enabled = true) → t.quietTimer = s.quietTimer)
      ∧ t.faults = (if s.store.skipped > 0 then
          pushFault s.faults ⟨.storeRecordSkipped, 0, s.uptime, s.store.skipped⟩ else s.faults)
      ∧ (∃ b : Frame, t.roomOut = s.roomOut ++ [b] ∧ b.dst = 127 ∧ b.src = s.ownAddress ∧ b.kind = 0x0F
          ∧ b.seq = s.mgmt.count ∧ b.payload = t.broadcastPayload ∧ b.payload.length = 42)
      ∧ t.mgmt.count = s.mgmt.count + 1
      ∧ (s.tables.report.onChange = true → t.mgmt.holdoff = .running (s.clock + secs s.tables.report.holdoff))
      ∧ (s.tables.report.onChange = false → t.mgmt.period = .running (s.clock + secs s.tables.report.period))
      ∧ t.tables = s.tables ∧ t.queue = s.queue ∧ t.room = s.room ∧ t.store = s.store ∧ t.meters = s.meters
      ∧ t.uptime = s.uptime ∧ t.clock = s.clock ∧ t.plantOut = s.plantOut ∧ t.pending = s.pending

/-- What a save has written is what the next load reads: every field of every table, with no record skipped, and meters 0
to 7 with the values they held when the write of the meter region began, but where all of them stand saturated, which
reads as a blank region (R189, R190, R192). Which of the counts made during the save come before that moment is a free
value (log 11). -/
def Obligations.SavedTablesLoadAgain : Prop :=
  ∀ s : State, s.tables.safe → s.store.saving = .save → s.store.answers = true →
    ∃ t, exec .saveComplete s = .next t
      ∧ t.store.saving = .idle ∧ t.store.lastMeterWrite = s.uptime ∧ t.tables = s.tables
      ∧ loadTables t.store = (s.tables, 0)
      ∧ (∀ ms : List Nat, ms = s.region.getD (s.meters.data.take 8) → ms.length = 8 → (∀ m ∈ ms, m ≤ 4294967295) →
          (∃ m ∈ ms, m ≠ 4294967295) → storedMeters t.store = ms)

/-- The store's own events (R192, R193): a completed save changes the bytes of its records and of the meter region alone,
a completed meter write those of the meter region alone, to the meters taken when it began, and a page that fails ends the
write with the pages before it standing and the time of the last meter write unchanged. A save stores the meters as they
stood when the write of the meter region began; which of the counts made during the save come before that moment is a free
value (log 11). -/
def Obligations.StoreWritesEnd : Prop :=
  (∀ s : State, s.store.saving = .save →
    let meters := s.region.getD (s.meters.data.take 8)
    exec .saveComplete s = .next { s with
      region := none
      store := { s.store with
        cells := afterSavePages s.store.cells s.tables meters 95, saving := .idle, lastMeterWrite := s.uptime } }
    ∧ (meters.length = 8 → ∀ a, 2988 ≤ a ∧ a < 4032 ∨ 4064 ≤ a →
      cellAt (afterSavePages s.store.cells s.tables meters 95) a = cellAt s.store.cells a))
  ∧ (∀ (s : State) (ms : List Nat), s.store.saving = .meterWrite ms → ms.length = 8 →
    exec .meterWriteComplete s = .next { s with store := { s.store with
      cells := writeBlock s.store.cells 4032 (meterBytes ms), saving := .idle, lastMeterWrite := s.uptime } }
    ∧ ∀ a, a < 4032 ∨ 4064 ≤ a →
      cellAt (writeBlock s.store.cells 4032 (meterBytes ms)) a = cellAt s.store.cells a)
  ∧ (∀ (s : State) (page : Nat), s.store.saving = .save → page < 95 →
    let records := writeBlock s.store.cells 0 ((recordBytes s.tables).take (32 * page))
    exec (.storePageFail page) s
        = .next { s with region := none, store := { s.store with cells := records, saving := .idle } }
    ∧ ∀ a, 32 * page ≤ a → cellAt records a = cellAt s.store.cells a)
  ∧ ∀ (s : State) (ms : List Nat), s.store.saving = .meterWrite ms →
    exec (.storePageFail 0) s = .next { s with store := { s.store with saving := .idle } }

/-! Zones. -/

/-- An accepted ZONE_REPORT (R14, R15, R22, R23, R24): the clamped reading stored, FRESH, age 0, the stale timer started, the
calls evaluated with every clear before every set, and accumulator, demand and dry demand returned to 0 as the calls that
cleared and set ask. Occupancy, override and effective setpoints stand. While ACTIVE nothing else of the record or the part
changes but the quiet entry timer and the broadcasts; in QUIET a newly latched call wakes the part with one pass, and any
other report leaves it in QUIET with the rest as it was (R34). -/
def Obligations.ZoneReportIsTaken : Prop :=
  ∀ (s : State) (src : Byte) (z : Fin 12) (temp : Int) (humidity : Option Int),
    s.phase = .running → s.fromRoomNode src = true → (s.row z).enabled = true →
    (if (s.row z).num 14 ≠ 0 then (s.row z).num 14 else (s.row z).num 13) = (src.toNat : Int) →
    -32768 ≤ temp → temp ≤ 32767 → (∀ h, humidity = some h → 0 ≤ h ∧ h ≤ 65535) →
    ∃ t, exec (.zoneReport src ([BitVec.ofNat 8 (z + 1)] ++ bytes2 temp ++ (humidity.map bytes2).getD [])) s = .next t
      ∧ t.zone z = { s.zone z with
          temp := clamp (-400) 850 temp, humidity := humidity.map (clamp 0 1000), reading := .fresh, age := 0
          staleTimer := .running (s.clock + secs s.tables.plant.staleTime)
          heat := (t.zone z).heat, cool := (t.zone z).cool, dry := (t.zone z).dry
          acc := (t.zone z).acc, dem := (t.zone z).dem, dryDem := (t.zone z).dryDem
          dryExcluded := (t.zone z).dryExcluded, target := (t.zone z).target }
      ∧ ZoneRec.evaluatedFrom (s.zone z) (t.zone z) s.tables.plant
      ∧ (s.economy = .active ∨ latched (s.zone z) (t.zone z) = false →
          ZoneRec.demandsFrom (s.zone z) (t.zone z) s.tables.plant
          ∧ (t.zone z).dryExcluded = (s.zone z).dryExcluded ∧ (t.zone z).target = (s.zone z).target)
      ∧ s.sentOnly t [] ∧ t.tables = s.tables
      ∧ (s.economy = .active →
          t = { s with
            zones := s.zones.set z (t.zone z), quietTimer := t.quietTimer, mgmt := t.mgmt, roomOut := t.roomOut })
      ∧ (s.economy = .quiet → latched (s.zone z) (t.zone z) = true → s.woken t)
      ∧ (s.economy = .quiet → latched (s.zone z) (t.zone z) = false →
          t = { s with zones := s.zones.set z (t.zone z), mgmt := t.mgmt, roomOut := t.roomOut })

/-- A ZONE_REPORT that R13 drops counts on meter 8 and does nothing else: a payload of another length, no zone 1 to 12, a
disabled zone, or a source that is not the zone's. -/
def Obligations.ZoneReportIsDropped : Prop :=
  ∀ (s : State) (src : Byte) (payload : List Byte), s.phase = .running → s.fromRoomNode src = true →
    (payload.length ≠ 3 ∧ payload.length ≠ 5
      ∨ (payload.headD 0).toNat = 0 ∨ 12 < (payload.headD 0).toNat
      ∨ ∃ z : Fin 12, (payload.headD 0).toNat = z + 1 ∧ ((s.row z).enabled = false
          ∨ (if (s.row z).num 14 ≠ 0 then (s.row z).num 14 else (s.row z).num 13) ≠ (src.toNat : Int))) →
    exec (.zoneReport src payload) s = .next (s.metered 8)

/-- A stale timer that expires in a FRESH zone makes it STALE with its demands 0 and one SENSOR_STALE entry, and changes
nothing else (R17). The changeover lockout's expiry marks it expired and changes nothing else (R56). -/
def Obligations.StaleAndLockoutTimersMark : Prop :=
  (∀ (s : State) (z : Fin 12), (s.zone z).reading = .fresh → (s.zone z).staleTimer.isRunning = true →
    exec (.staleTimerExpiry (z + 1)) s = .next { s with
      zones := s.zones.set z { s.zone z with reading := .stale, acc := 0, dem := 0, dryDem := 0, staleTimer := .stopped }
      faults := pushFault s.faults ⟨.sensorStale, z + 1, s.uptime, (s.zone z).age⟩ })
  ∧ ∀ s : State, exec .changeoverLockoutExpiry s = .next { s with engine := { s.engine with lockout := .stopped } }

/-- Each second the reading age of every FRESH or STALE zone rises by 1 and stops at 65,535; in NEVER it stays; nothing else
changes, no reading state among it. The age is counted from the 0 that an accepted report leaves (R15), and READ_ZONE
reports it as the sixth and seventh byte of its data (R16, R176). That one command ages every zone is the model's reading
(log 33). -/
def Obligations.ReadingAgeCounts : Prop :=
  (∀ s : State, ∃ t, exec .readingAgeCount s = .next t ∧ t = { s with zones := t.zones }
    ∧ ∀ z, t.zone z =
        { s.zone z with age := if (s.zone z).reading = .never then (s.zone z).age else min 65535 ((s.zone z).age + 1) })
  ∧ (∀ (s : State) (src : Byte) (z : Fin 12) (temp : Int), s.phase = .running → s.fromRoomNode src = true →
    (s.row z).enabled = true →
    (if (s.row z).num 14 ≠ 0 then (s.row z).num 14 else (s.row z).num 13) = (src.toNat : Int) →
    ∃ t, exec (.zoneReport src ([BitVec.ofNat 8 (z + 1)] ++ bytes2 temp)) s = .next t ∧ (t.zone z).age = 0)
  ∧ ∀ (s : State) (src seq : Byte) (z : Fin 12), s.phase = .running → s.fromRoomNode src = true →
    (s.caller src).role ≠ .none →
    ∃ data : List Byte, exec (.readZone src seq [BitVec.ofNat 8 (z + 1)]) s = .next (s.replied src seq (0 :: data))
      ∧ (data.drop 5).take 2 = bytes2 (s.zone z).age

/-- A running override loses a minute while it has more than one, and nothing else changes; at its last it expires: it
becomes absent, the base occupancy gives the effective setpoints again and the calls are evaluated, with the demands that
R24 gives (R28); the rest of the record, and of the part but for the quiet entry timer and the broadcasts, stands. The model
takes both the expiry and the last minute's count for the expiry (log 17). -/
def Obligations.OverrideRunsOut : Prop :=
  (∀ (s : State) (z : Fin 12) (n due : Nat),
    (s.zone z).override = some (n + 2) → (s.zone z).minuteCount = .running due →
    exec (.overrideMinuteCount (z + 1)) s = .next { s with
      zones := s.zones.set z { s.zone z with override := some (n + 1), minuteCount := .running (due + 60000) } })
  ∧ ∀ (s : State) (z : Fin 12), (s.zone z).override = some 1 → (s.zone z).minuteCount.isRunning = true →
    s.phase = .running → s.economy = .active →
    exec (.overrideMinuteCount (z + 1)) s = exec (.overrideExpiry (z + 1)) s
    ∧ ∃ t, exec (.overrideExpiry (z + 1)) s = .next t
      ∧ t.zone z = { s.zone z with
          override := none, minuteCount := .stopped
          shEff := (t.zone z).shEff, scEff := (t.zone z).scEff, rhsEff := (t.zone z).rhsEff
          heat := (t.zone z).heat, cool := (t.zone z).cool, dry := (t.zone z).dry
          acc := (t.zone z).acc, dem := (t.zone z).dem, dryDem := (t.zone z).dryDem }
      ∧ (t.zone z).setpointsOf (s.row z) s.tables.plant
      ∧ ((s.row z).enabled = true → (s.zone z).reading ≠ .never →
          ZoneRec.evaluatedFrom (s.zone z) (t.zone z) s.tables.plant
          ∧ ZoneRec.demandsFrom (s.zone z) (t.zone z) s.tables.plant)
      ∧ ((s.row z).enabled = false ∨ (s.zone z).reading = .never → ZoneRec.callsKept (s.zone z) (t.zone z))
      ∧ s.sentOnly t []
      ∧ t = { s with
          zones := s.zones.set z (t.zone z), quietTimer := t.quietTimer, mgmt := t.mgmt, roomOut := t.roomOut }

/-- The quiet entry timer's expiry with the part ACTIVE enters QUIET: it runs no pass, sends no frame, records no fault, and
no running period is shortened or lengthened (R33). The next pass restarts its timer with the quiet pass period; a poll round
in progress goes on; and the round after the one already due is made due one quiet poll interval after that one's start. -/
def Obligations.QuietEntry : Prop :=
  ∀ s : State, s.quietTimer.isRunning = true → s.economy = .active →
    let q : State := { s with economy := .quiet, quietTimer := .stopped }
    exec .quietEntryTimerExpiry s = .next q
    ∧ (s.engine.passTimer.isRunning = true → ∀ now : Nat,
        ∃ t, exec .passTimerExpiry { q with clock := now } = .next t
          ∧ t.engine.passTimer = .running (now + secs s.tables.plant.quietPassPeriod))
    ∧ (s.port.roundTimer.isRunning = true → s.port.round = none → ∀ now : Nat,
        ∃ t, exec .pollRoundDue { q with clock := now } = .next t
          ∧ t.port.round = some ⟨0, s.indoorAddress, []⟩
          ∧ t.port.roundTimer = .running (now + secs s.tables.plant.quietPollInterval))

/-! Requests. -/

/-- While the part loads or restarts, every frame for the Management Unit and every frame to a proxy is answered BUSY and a
ZONE_REPORT is discarded without a count; nothing else happens (R13, R157). -/
def Obligations.BusyOutsideRunning : Prop :=
  (∀ (s : State) (c : Instr) (src kind seq : Byte) (p : List Byte), s.phase ≠ .running → src ≠ s.ownAddress →
    c.wellFormed = true →
    (c.request? = some (src, kind, seq, p) ∨ c = .malformedRequest src kind seq p) →
    exec c s = .next (s.replied src seq [9]))
  ∧ (∀ (s : State) (f : Frame), s.phase ≠ .running → f.src ≠ s.ownAddress →
    Instr.wellFormed (.proxyFrame f) = true → exec (.proxyFrame f) s = .next (s.proxyAnswered f 9))
  ∧ ∀ (s : State) (src : Byte) (p : List Byte), s.phase ≠ .running → exec (.zoneReport src p) s = .next s

/-- A frame to the part that is no ZONE_REPORT and no well-formed request is answered MALFORMED, and so is each of the ten
requests with a payload that R174 does not allow; nothing else happens (R173). -/
def Obligations.MalformedIsAnswered : Prop :=
  ∀ (s : State) (c : Instr) (src kind seq : Byte) (p : List Byte), s.phase = .running → s.fromRoomNode src = true →
    (c.request? = some (src, kind, seq, p) ∨ (c = .malformedRequest src kind seq p ∧ kind ≠ 0x01)) →
    wellFormedRequest kind p = false →
    exec c s = .next (s.replied src seq [12])

/-- A well-formed request that the role of its source does not allow is answered NOT_PERMITTED and changes nothing: any
request of a source that no row of table 4 names, and by the first row that names it a console's or an open master's
request beyond its role (R172, R173). -/
def Obligations.RoleRefuses : Prop :=
  ∀ (s : State) (c : Instr) (src kind seq : Byte) (p : List Byte), s.phase = .running → s.fromRoomNode src = true →
    c.request? = some (src, kind, seq, p) → c.wellFormed = true →
    ((∀ i, (s.tables.role.get i).num 1 ≠ (src.toNat : Int))
      ∨ ∃ i, (s.tables.role.get i).num 1 = (src.toNat : Int)
        ∧ (∀ j, j < i → (s.tables.role.get j).num 1 ≠ (src.toNat : Int))
        ∧ let role := (s.tables.role.get i).num 2
          ((kind = 0x06 ∨ kind = 0x08 ∨ kind = 0x09 ∨ kind = 0x0A ∨ kind = 0x0B) ∧ (role = 0 ∨ role = 1)
          ∨ kind = 0x05 ∧ role = 0
          ∨ kind = 0x07 ∧ (role = 0 ∨ role = 1) ∧ (s.tables.role.get i).num 4 = 0
          ∨ kind = 0x02 ∧ role = 0 ∧ 1 ≤ (p.headD 0).toNat ∧ (p.headD 0).toNat ≤ 12
              ∧ (s.tables.role.get i).num 3 ≠ ((p.headD 0).toNat : Int) ∧ 0 ≤ (s.tables.role.get i).num 3)) →
    exec c s = .next (s.replied src seq [2])

/-- A taken SET_ZONE (R3, R4, R19, R22, R24, R26, R27, R175): the setpoint parts in the order heat, cool, dry, each clamped
and the partner moved to exactly 20 apart; then the occupancy part of an enabled zone; then the effective setpoints and one
evaluation, with the demands that R24 gives, none of a zone that is disabled or has no reading; one REPLY, CLAMPED where a
part was clamped or moved its partner. While ACTIVE nothing else of the record or the part changes but the quiet entry timer
and the broadcasts; in QUIET it wakes the part. That the reply leaves before the broadcasts of the step
is the model's choice (log 9). -/
def Obligations.SetZoneIsTaken : Prop :=
  ∀ (s : State) (src seq occ : Byte) (z : Fin 12) (parts : Nat) (h c d : Int),
    s.phase = .running → s.fromRoomNode src = true → s.tables.safe →
    (s.caller src).role ≠ .none → ((s.caller src).role = .console → (s.caller src).bound = z.val + 1) →
    1 ≤ parts → parts ≤ 15 → (8 ≤ parts → occ.toNat ≤ 3) → (s.busy = true → parts = 8) →
    -32768 ≤ h → h ≤ 32767 → -32768 ≤ c → c ≤ 32767 → 0 ≤ d → d ≤ 65535 →
    let row := s.row z
    let heat := parts % 2 = 1
    let cool := parts / 2 % 2 = 1
    let dry := parts / 4 % 2 = 1
    let sh1 := if heat then clamp 50 300 h else row.sh
    let sc1 := max row.sc (sh1 + 20)
    let sc2 := if cool then clamp 150 350 c else sc1
    let sh2 := min sh1 (sc2 - 20)
    let rhs2 := if dry then clamp 400 700 d else row.rhs
    let clamped := (heat ∧ (clamp 50 300 h ≠ h ∨ row.sc < sh1 + 20))
      ∨ (cool ∧ (clamp 150 350 c ≠ c ∨ sc2 - 20 < sh1)) ∨ (dry ∧ clamp 400 700 d ≠ d)
    ∃ t, exec (.setZone src seq
        ([BitVec.ofNat 8 (z + 1), BitVec.ofNat 8 parts] ++ bytes2 h ++ bytes2 c ++ bytes2 d ++ [occ])) s = .next t
      ∧ (t.row z).sh = sh2 ∧ (t.row z).sc = sc2 ∧ (t.row z).rhs = rhs2
      ∧ (∀ f, 1 ≤ f ∧ f ≤ 14 → f ≠ 8 → f ≠ 9 → f ≠ 11 → (t.row z).num f = row.num f)
      ∧ t.tables = { s.tables with zone := s.tables.zone.set z (t.row z) }
      ∧ (if row.enabled = true ∧ 8 ≤ parts then
          (if occ.toNat = 3 then
            (t.zone z).base = (s.zone z).base ∧ (t.zone z).override = some row.overrideTime.toNat
              ∧ (t.zone z).minuteCount = .running (s.clock + 60000)
          else
            (t.zone z).base = [Occupancy.occupied, .setback, .away].getD occ.toNat .occupied
              ∧ (t.zone z).override = none ∧ (t.zone z).minuteCount = .stopped)
        else
          (t.zone z).base = (s.zone z).base ∧ (t.zone z).override = (s.zone z).override
            ∧ (t.zone z).minuteCount = (s.zone z).minuteCount)
      ∧ t.zone z = { s.zone z with
          base := (t.zone z).base, override := (t.zone z).override, minuteCount := (t.zone z).minuteCount
          shEff := (t.zone z).shEff, scEff := (t.zone z).scEff, rhsEff := (t.zone z).rhsEff
          heat := (t.zone z).heat, cool := (t.zone z).cool, dry := (t.zone z).dry
          acc := (t.zone z).acc, dem := (t.zone z).dem, dryDem := (t.zone z).dryDem
          dryExcluded := (t.zone z).dryExcluded, target := (t.zone z).target }
      ∧ (t.zone z).setpointsOf (t.row z) s.tables.plant
      ∧ (row.enabled = true → (s.zone z).reading ≠ .never →
          ZoneRec.evaluatedFrom (s.zone z) (t.zone z) s.tables.plant
          ∧ (s.economy = .active → ZoneRec.demandsFrom (s.zone z) (t.zone z) s.tables.plant))
      ∧ (row.enabled = false ∨ (s.zone z).reading = .never → ZoneRec.callsKept (s.zone z) (t.zone z))
      ∧ (s.economy = .active →
          (t.zone z).dryExcluded = (s.zone z).dryExcluded ∧ (t.zone z).target = (s.zone z).target)
      ∧ s.sentOnly t [⟨src, s.ownAddress, 0x0E, seq,
          [if clamped then 1 else 0] ++ bytes2 sh2 ++ bytes2 sc2 ++ bytes2 rhs2 ++ [byteOf (t.zone z).base.code]
            ++ bytes2 ((t.zone z).override.getD 0 : Nat)⟩]
      ∧ (s.economy = .quiet → s.woken t)
      ∧ (s.economy = .active → t = { s with
          tables := t.tables, zones := s.zones.set z (t.zone z), quietTimer := t.quietTimer, mgmt := t.mgmt
          roomOut := t.roomOut })

/-- READ_ZONE answers OK with the 28 bytes of the record in the order of R176, and NO_SUCH_ZONE outside 1 to 12; nothing
changes. -/
def Obligations.ReadZoneAnswers : Prop :=
  ∀ (s : State) (src seq zone : Byte), s.phase = .running → s.fromRoomNode src = true → (s.caller src).role ≠ .none →
    (∀ z : Fin 12, zone.toNat = z + 1 →
      let r := s.zone z
      let data : List Byte :=
        [byteOf r.reading.code] ++ bytes2 r.temp ++ bytes2 (r.humidity.getD 65535) ++ bytes2 r.age
        ++ [byteOf r.base.code] ++ bytes2 (r.override.getD 0 : Nat) ++ bytes2 r.shEff ++ bytes2 r.scEff ++ bytes2 r.rhsEff
        ++ [byteOf ((if r.heat then 1 else 0) + (if r.cool then 2 else 0) + (if r.dry then 4 else 0))]
        ++ bytes2 r.acc ++ bytes2 r.dem ++ bytes2 r.dryDem
        ++ [if r.dryExcluded then 1 else 0, byteOf (r.target.getD 255),
            byteOf (s.queue.status.get (Actuator.ix (.damper z))).code]
        ++ bytes2 (s.engine.starve.get z)
      data.length = 28 ∧ exec (.readZone src seq [zone]) s = .next (s.replied src seq (0 :: data)))
    ∧ (zone.toNat = 0 ∨ 12 < zone.toNat → exec (.readZone src seq [zone]) s = .next (s.replied src seq [3]))

/-- READ_STATUS answers OK with the items of the section asked for, in the order, the widths and the codes of R177, formed
whole from the state as it stands, and changes nothing: a remaining time is rounded up, and 0 where its timer is stopped; a
section fits one REPLY (R153). A section 8 shows zeros for the requester, proxy, kind and sequence of a FREE slot: the
model's choice (log 40). -/
def Obligations.ReadStatusAnswers : Prop :=
  ∀ (s : State) (src seq : Byte) (start : Nat), s.phase = .running → s.fromRoomNode src = true →
    (s.caller src).role ≠ .none → start ≤ 31 →
    (∀ r, s.engine.latest = some r → r.relief.length ≤ 12) →
    let q := s.seq
    let flag (b : Bool) : Byte := if b then 1 else 0
    let flags (bs : List Bool) : Byte :=
      BitVec.ofNat 8 ((List.range 5).map fun i => if bs.getD i false then 2 ^ i else 0).sum
    let left (t : Timer) (unit : Nat) : Nat := match t with
      | .stopped => 0
      | .running due => (due - s.clock + (unit - 1)) / unit
    let seconds (t : Timer) : List Byte := bytes2 (left t 1000)
    let side (d : Option Side) : Byte := BitVec.ofNat 8 ([none, some Side.cool, some .heat].idxOf d)
    let direction (d : Option Side) : Byte := BitVec.ofNat 8 ([some Side.cool, some .heat, none].idxOf d)
    let status (a : Fin 16) : Byte :=
      BitVec.ofNat 8 ([ActStatus.unknown, .ready, .unresponsive, .stalled, .outOfField].idxOf (s.queue.status.get a))
    let reserved (a : Fin 16) : Byte := flag (s.queue.entries.any fun e => e.act.number = a + 1 && e.st ≠ .waiting)
    let values (v : Tab 16 (Option Int)) : List Byte := (List.finRange 16).flatMap fun a => bytes2 ((v.get a).getD 0)
    let answers (section_ : Byte) (data : List Byte) (length : Nat) : Prop :=
      exec (.readStatus src seq [section_, BitVec.ofNat 8 start]) s = .next (s.replied src seq (0 :: data))
        ∧ data.length = length ∧ length + 1 ≤ 48
    answers 0
      ([BitVec.ofNat 8 ([PlantState.idle, .fanOnly, .startWait, .run, .overrun, .equalize, .defrost, .recovery, .lockout,
            .hardLockout].idxOf q.state), side q.runSide,
          BitVec.ofNat 8 ([none, some LockoutCause.outdoorFault, some .condensate, some .outdoorLost, some .indoorLost,
            some .coilFreeze].idxOf q.displayed),
          flags [q.causes.outdoorFault, q.causes.condensate, q.causes.outdoorLost, q.causes.indoorLost,
            q.causes.coilFreeze], direction q.valveDir, direction q.inFlight]
        ++ bytes2 q.cmdQ ++ [byteOf q.cmdF] ++ bytes2 q.capLimit
        ++ seconds q.minOff ++ seconds q.minRun ++ seconds q.equalize
        ++ [flags [q.minRunHold, q.coldDraftHold, q.coilFreezeHold], byteOf q.history.length]
        ++ bytes4 (q.history.getD 0 0) ++ bytes4 (q.history.getD 1 0) ++ bytes4 (q.history.getD 2 0)) 31
    ∧ answers 1
      ([BitVec.ofNat 8 ([none, some DefrostPhase.pauseIn, some .valveIn, some .startIn, some .melt, some .pauseOut,
            some .valveOut, some .startOut, some .warming].idxOf q.phase), flag q.shadow.isSome]
        ++ bytes4 ((q.shadow.map PassResult.number).getD 0 : Nat) ++ bytes2 q.frostTime ++ [byteOf q.incomplete]
        ++ seconds q.pauseTimer ++ seconds q.coldDraft ++ [byteOf (left q.maxTimer 60000), byteOf q.defrostCtl]) 15
    ∧ answers 2
      ([flag (s.economy = .quiet), side s.engine.served, byteOf (left s.engine.lockout 60000)]
        ++ bytes2 s.engine.prevQ ++ [byteOf s.engine.lowCount]
        ++ (match s.engine.latest with
          | none => List.replicate 11 0
          | some r =>
            [1] ++ bytes4 r.number ++ [BitVec.ofNat 8 ([Mode.off, .fan, .cool, .heat, .dry].idxOf r.mode)] ++ bytes2 r.q
            ++ [byteOf r.f, flags [r.changeoverHeld, r.sideBlocked, r.forcedRelief, r.airflowShort],
                byteOf r.relief.length] ++ r.relief.map fun z => BitVec.ofNat 8 (z.val + 1)))
      (17 + (s.engine.latest.map fun r => r.relief.length).getD 0)
    ∧ answers 3
      (((List.finRange 12).map fun z => byteOf ((s.engine.latest.bind fun r => r.targets.get z).getD 255))
        ++ (List.finRange 12).flatMap fun z => bytes2 (s.engine.starve.get z)) 36
    ∧ answers 4 ((List.finRange 16).flatMap fun a => [status a, reserved a]) 32
    ∧ answers 5 (values s.queue.lastIssued) 32
    ∧ answers 6 (values s.queue.lastCompleted) 32
    ∧ answers 7
      ([byteOf s.queue.entries.length, byteOf start] ++ ((s.queue.entries.drop start).take 8).flatMap fun e =>
        [byteOf e.act.number, BitVec.ofNat 8 ([EntryState.waiting, .issued, .moving].idxOf e.st
            + if e.origin = .sequencer then 4 else 0)] ++ bytes2 e.value ++ [byteOf e.retries])
      (2 + 5 * min 8 (s.queue.entries.length - start))
    ∧ answers 8
      ([flags [s.port.lostIndoor, s.port.lostOutdoor]] ++ ((List.finRange 14).map fun t => byteOf (s.port.missed.get t))
        ++ ((List.finRange 4).flatMap fun i => match s.room.slots.get i with
          | .free => List.replicate 7 0
          | .pending r p k n _ => [1, r, p, k, n, 0, 0]
          | .ready r p k n _ t => [2, r, p, k, n] ++ seconds t)
        ++ [flag (s.store.saving ≠ .idle), flag s.store.wpHigh]) 45

/-- READ_FIELD and WRITE_FIELD check the table, then the row, then the field, and answer the first check that fails; nothing
changes (R178, R179). -/
def Obligations.FieldNumbersAreChecked : Prop :=
  ∀ (s : State) (src seq t r f : Byte) (v : List Byte) (st : Byte), s.phase = .running → s.fromRoomNode src = true →
    v.length = 3 →
    (st = 4 ∧ (t.toNat = 0 ∨ 6 < t.toNat)
      ∨ st = 6 ∧ 1 ≤ t.toNat ∧ t.toNat ≤ 6 ∧ (r.toNat = 0 ∨ [12, 12, 32, 16, 1, 1].getD (t.toNat - 1) 0 < r.toNat)
      ∨ st = 5 ∧ 1 ≤ t.toNat ∧ t.toNat ≤ 6 ∧ 1 ≤ r.toNat ∧ r.toNat ≤ [12, 12, 32, 16, 1, 1].getD (t.toNat - 1) 0
          ∧ (f.toNat = 0 ∨ [14, 1, 6, 4, 56, 5].getD (t.toNat - 1) 0 < f.toNat)) →
    ((s.caller src).mayReadField = true → exec (.readField src seq [t, r, f]) s = .next (s.replied src seq [st]))
    ∧ ((s.caller src).role = .service → s.busy = false →
        exec (.writeField src seq ([t, r, f] ++ v)) s = .next (s.replied src seq [st]))

/-- READ_FIELD, READ_METER and READ_FAULTS answer with the value as it stands and change nothing: a field in 3 bytes, a
meter in 4 or its low 16 bits in 2, NO_SUCH_METER above 22, and the count, the start and up to five entries of the Fault
List, oldest first, with the kinds coded 1 to 13 (R178, R181). -/
def Obligations.ReadsAnswer : Prop :=
  ∀ (s : State) (src seq : Byte), s.phase = .running → s.fromRoomNode src = true →
    (∀ t r f : Byte, fieldExists t.toNat r.toNat f.toNat = true → (s.caller src).mayReadField = true →
      exec (.readField src seq [t, r, f]) s
        = .next (s.replied src seq (0 :: bytes3 (s.tables.read t.toNat r.toNat f.toNat))))
    ∧ (∀ m : Fin 23, (s.caller src).mayReadMeter = true →
        exec (.readMeter src seq [BitVec.ofNat 8 m, 0]) s = .next (s.replied src seq (0 :: bytes4 (s.meters.get m)))
        ∧ exec (.readMeter src seq [BitVec.ofNat 8 m, 1]) s
            = .next (s.replied src seq (0 :: bytes2 ((s.meters.get m % 65536 : Nat) : Int))))
    ∧ (∀ m narrow : Byte, 22 < m.toNat → narrow.toNat ≤ 1 → (s.caller src).mayReadMeter = true →
        exec (.readMeter src seq [m, narrow]) s = .next (s.replied src seq [8]))
    ∧ (∀ start : Byte, start.toNat ≤ 15 → (s.caller src).role = .service →
        exec (.readFaults src seq [start]) s = .next (s.replied src seq
          ([0, byteOf s.faults.length, start] ++ ((s.faults.drop start.toNat).take 5).flatMap fun e =>
            [byteOf e.kind.code, byteOf e.subject] ++ bytes4 e.minute ++ bytes3 e.detail)))
    ∧ [FaultKind.sensorStale, .actuatorUnresponsive, .actuatorStalled, .nodeRefused, .addressRange, .outdoorFault,
        .outdoorLost, .indoorLost, .condensateHigh, .coilFreeze, .defrostIncomplete, .hardLockout,
        .storeRecordSkipped].map FaultKind.code = [1, 2, 3, 4, 5, 6, 7, 8, 9, 10, 11, 12, 13]

/-- A WRITE_FIELD of any field but a setpoint stores the value clamped to the field's range and no other field, and
answers OK or CLAMPED with the value that stands; a zone that already stands in another row of the relief list is refused
with DUPLICATE, and a write during a save with BUSY, and then nothing changes (R72, R173, R179). A written setback offset or
dry setpoint, and a changed away setpoint for each AWAY zone without an override, recomputes the effective setpoints and
evaluates the calls at once (R5, R20, R21, R24, R30); every other zone's record stands, but that of a zone whose enabled or
voting field is written. A change of the reporting mode stops the period timer, or stops the holdoff, clears pending and
starts the period timer (R180, R187). While ACTIVE the quiet entry timer starts anew or stops by the quiet condition (R32); in
QUIET the write wakes the part (R34). That the reply leaves before the broadcasts of the step (log 9) and that an away
setpoint written with its own value recomputes nothing (log 39) are the model's choices. -/
def Obligations.WriteFieldStores : Prop :=
  ∀ (s : State) (src seq : Byte) (t r f : Nat) (v : Int),
    s.phase = .running → s.fromRoomNode src = true → (s.caller src).role = .service →
    fieldExists t r f = true → ¬ (t = 1 ∧ (f = 8 ∨ f = 9)) → -8388608 ≤ v → v ≤ 8388607 →
    let p := [BitVec.ofNat 8 t, BitVec.ofNat 8 r, BitVec.ofNat 8 f] ++ bytes3 v
    let w := clamp (fieldSpec t r f).lo (fieldSpec t r f).hi v
    let refreshes (z : Fin 12) : Prop := t = 1 ∧ r = z + 1 ∧ (f = 10 ∨ f = 11)
      ∨ t = 5 ∧ 53 ≤ f ∧ f ≤ 55 ∧ s.tables.plant.num f ≠ w
        ∧ (s.row z).enabled = true ∧ (s.zone z).base = .away ∧ (s.zone z).override = none
    (s.busy = true → exec (.writeField src seq p) s = .next (s.replied src seq [9]))
    ∧ (s.busy = false → t = 2 → w ≠ 0 → (∃ i : Fin 12, i.val + 1 ≠ r ∧ s.tables.relief.get i = w) →
        exec (.writeField src seq p) s = .next (s.replied src seq [7]))
    ∧ (s.busy = false → ¬ (t = 2 ∧ w ≠ 0 ∧ ∃ i : Fin 12, i.val + 1 ≠ r ∧ s.tables.relief.get i = w) →
        ∃ u, exec (.writeField src seq p) s = .next u
          ∧ u.tables.read t r f = w
          ∧ (∀ t' r' f', fieldExists t' r' f' = true → (t', r', f') ≠ (t, r, f) →
              u.tables.read t' r' f' = s.tables.read t' r' f')
          ∧ s.sentOnly u [⟨src, s.ownAddress, 0x0E, seq, [if w = v then 0 else 1] ++ bytes3 w⟩]
          ∧ (s.economy = .quiet → s.woken u)
          ∧ (s.economy = .active → u.economy = .active ∧ u.engine = s.engine ∧ u.port = s.port ∧ u.seq = s.seq
              ∧ u.store = s.store ∧ u.meters = s.meters ∧ u.faults = s.faults ∧ u.room = s.room
              ∧ (¬ (t = 1 ∧ f = 1) → u.queue = s.queue)
              ∧ (u.quietCondition = true → u.quietTimer = .running (s.clock + mins u.tables.plant.quietEntryTime))
              ∧ (u.quietCondition = false → u.quietTimer = .stopped)
              ∧ ((∀ z, u.zone z = s.zone z) → ¬ (t = 6 ∧ f = 1) → u.mgmt = s.mgmt))
          ∧ (∀ z : Fin 12, refreshes z → s.refreshed u z)
          ∧ (∀ z : Fin 12, ¬ refreshes z → ¬ (t = 1 ∧ r = z + 1 ∧ (f = 1 ∨ f = 2)) → s.zoneKept u z)
          ∧ (t = 6 → f = 1 → s.tables.report.onChange = false → u.tables.report.onChange = true →
              u.mgmt.period = .stopped ∧ (s.economy = .active → u.mgmt = { s.mgmt with period := .stopped }))
          ∧ (t = 6 → f = 1 → s.tables.report.onChange = true → u.tables.report.onChange = false →
              u.mgmt = { s.mgmt with
                holdoff := .stopped, pending := false, period := .running (s.clock + secs s.tables.report.period) })
          ∧ (t = 6 → f = 1 → s.tables.report.onChange = u.tables.report.onChange → s.economy = .active →
              u.mgmt = s.mgmt))

/-- A WRITE_FIELD of a heat or cool setpoint (R3, R20, R22): the value clamped to its own range, the partner moved to
exactly 20 apart where it stood too near, no other field changed, the effective setpoints recomputed and the calls
evaluated with the demands that R24 gives, the rest of the record as it stood, and the reply carries both setpoints, CLAMPED
where either happened. That the reply leaves before the
broadcasts of the step is the model's choice (log 9). -/
def Obligations.WriteSetpointKeepsSeparation : Prop :=
  ∀ (s : State) (src seq : Byte) (z : Fin 12) (f : Nat) (v : Int),
    s.phase = .running → s.fromRoomNode src = true → (s.caller src).role = .service → s.busy = false →
    s.tables.safe → f = 8 ∨ f = 9 → -8388608 ≤ v → v ≤ 8388607 →
    let row := s.row z
    let w := if f = 8 then clamp 50 300 v else clamp 150 350 v
    let sh := if f = 8 then w else min row.sh (w - 20)
    let sc := if f = 8 then max row.sc (w + 20) else w
    let clamped := w ≠ v ∨ (f = 8 ∧ row.sc < w + 20) ∨ (f = 9 ∧ w < row.sh + 20)
    ∃ t, exec (.writeField src seq ([1, BitVec.ofNat 8 (z + 1), BitVec.ofNat 8 f] ++ bytes3 v)) s = .next t
      ∧ (t.row z).sh = sh ∧ (t.row z).sc = sc
      ∧ (∀ k, 1 ≤ k ∧ k ≤ 14 → k ≠ 8 → k ≠ 9 → (t.row z).num k = row.num k)
      ∧ t.tables = { s.tables with zone := s.tables.zone.set z (t.row z) }
      ∧ t.zone z = { s.zone z with
          shEff := (t.zone z).shEff, scEff := (t.zone z).scEff, rhsEff := (t.zone z).rhsEff
          heat := (t.zone z).heat, cool := (t.zone z).cool, dry := (t.zone z).dry
          acc := (t.zone z).acc, dem := (t.zone z).dem, dryDem := (t.zone z).dryDem
          dryExcluded := (t.zone z).dryExcluded, target := (t.zone z).target }
      ∧ (t.zone z).setpointsOf (t.row z) s.tables.plant
      ∧ (row.enabled = true → (s.zone z).reading ≠ .never →
          ZoneRec.evaluatedFrom (s.zone z) (t.zone z) s.tables.plant
          ∧ (s.economy = .active → ZoneRec.demandsFrom (s.zone z) (t.zone z) s.tables.plant))
      ∧ (row.enabled = false ∨ (s.zone z).reading = .never → ZoneRec.callsKept (s.zone z) (t.zone z))
      ∧ (s.economy = .active →
          (t.zone z).dryExcluded = (s.zone z).dryExcluded ∧ (t.zone z).target = (s.zone z).target)
      ∧ s.sentOnly t [⟨src, s.ownAddress, 0x0E, seq,
          [if clamped then 1 else 0] ++ (if f = 8 then bytes3 sh ++ bytes3 sc else bytes3 sc ++ bytes3 sh)⟩]
      ∧ (s.economy = .quiet → s.woken t)
      ∧ (s.economy = .active → t = { s with
          tables := t.tables, zones := s.zones.set z (t.zone z), quietTimer := t.quietTimer, mgmt := t.mgmt
          roomOut := t.roomOut })

/-- A WRITE_FIELD that disables a zone resets its record and hands the queue one damper 0 of origin SEQUENCER; one that
enables it resets its record; one that ends its voting sets its demands to 0 (R6, R7, R8, R131). -/
def Obligations.WriteEnabledAndVoting : Prop :=
  ∀ (s : State) (src seq : Byte) (z : Fin 12) (f : Nat) (b : Bool),
    s.phase = .running → s.economy = .active → s.fromRoomNode src = true → (s.caller src).role = .service →
    s.busy = false → f = 1 ∨ f = 2 →
    let v : Int := if b then 1 else 0
    ∃ t, exec (.writeField src seq ([1, BitVec.ofNat 8 (z + 1), BitVec.ofNat 8 f] ++ bytes3 v)) s = .next t
      ∧ t.tables = { s.tables with zone := s.tables.zone.set z (t.row z) } ∧ t.row z = (s.row z).setNth f v
      ∧ t.zones = s.zones.set z (t.zone z)
      ∧ (f = 1 → (s.row z).enabled ≠ b → t.zone z = ZoneRec.reset (t.row z))
      ∧ (f = 1 → (s.row z).enabled = b → t.zone z = s.zone z)
      ∧ (f = 2 → (s.row z).voting = true → b = false →
          t.zone z = { s.zone z with acc := 0, dem := 0, dryDem := 0 })
      ∧ (f = 2 → ¬ ((s.row z).voting = true ∧ b = false) → t.zone z = s.zone z)
      ∧ t.queue = (if f = 1 ∧ (s.row z).enabled = true ∧ b = false then s.queue.enqueue (.damper z) 0 .sequencer
          else s.queue)
      ∧ (f = 1 → (s.row z).enabled = true → b = false → t.queue.holds (.damper z) 0 .sequencer)
      ∧ t.seq = s.seq ∧ t.engine = s.engine ∧ t.port = s.port ∧ t.meters = s.meters ∧ t.faults = s.faults
      ∧ t.store = s.store ∧ t.room = s.room ∧ t.plantOut = s.plantOut

/-- CLEAR_LOCKOUT (R108, R182): NOT_LOCKED and no change outside HARD_LOCKOUT. In HARD_LOCKOUT it is answered OK, min off
runs from the clear, and each condition that would trigger a cause now is taken: a lost board, a HIGH float, a fault code,
which alone stands in the history. With none the state is what IDLE makes of the newest result; no compressor is started
in either case. That a clear with no cause and no newest result stays in IDLE is the model's reading (log 30), and the
order of reply and broadcast its choice (log 9). -/
def Obligations.ClearLockout : Prop :=
  ∀ (s : State) (src seq : Byte), s.phase = .running → s.fromRoomNode src = true → (s.caller src).role = .service →
    (s.seq.state ≠ .hardLockout → exec (.clearLockout src seq []) s = .next (s.replied src seq [11]))
    ∧ (s.seq.state = .hardLockout → s.seq.recordSafe →
      let high := (s.indoorEntry.map IndoorData.floatHigh).getD false
      let code := (s.outdoorEntry.map OutdoorData.faultCode).getD 0
      let any := s.port.lostIndoor = true ∨ s.port.lostOutdoor = true ∨ high = true ∨ code ≠ 0
      ∃ t, exec (.clearLockout src seq []) s = .next t
        ∧ s.sentOnly t [⟨src, s.ownAddress, 0x0E, seq, [0]⟩]
        ∧ t.seq.minOff = .running (s.clock + secs s.tables.plant.minOff)
        ∧ t.seq.causes.indoorLost = s.port.lostIndoor ∧ t.seq.causes.outdoorLost = s.port.lostOutdoor
        ∧ t.seq.causes.condensate = high ∧ (t.seq.causes.outdoorFault = true ↔ code ≠ 0)
        ∧ t.seq.causes.coilFreeze = false
        ∧ t.seq.history = (if code ≠ 0 then [s.uptime] else [])
        ∧ (any → t.seq.state = .lockout) ∧ (any → 0 ≤ s.seq.cmdQ → t.seq.cmdQ = 0)
        ∧ (¬ any → s.seq.newest = none → t.seq.state = .idle)
        ∧ (¬ any → ∀ r, s.seq.newest = some r → t.seq.state =
            (if r.q > 0 then .startWait else if r.f > 0 then .fanOnly else .idle) ∧ t.seq.cmdQ = s.seq.cmdQ)
        ∧ t.tables = s.tables ∧ t.zones = s.zones ∧ t.engine = s.engine ∧ t.port = s.port)

/-- SAVE_CONFIG: BUSY while something is being written, STORE_PROTECTED where the pin is high, and otherwise the save begins
and is answered OK; nothing else changes (R173, R183). -/
def Obligations.SaveConfig : Prop :=
  ∀ (s : State) (src seq : Byte), s.phase = .running → s.fromRoomNode src = true → (s.caller src).role = .service →
    (s.store.saving ≠ .idle → exec (.saveConfig src seq []) s = .next (s.replied src seq [9]))
    ∧ (s.store.saving = .idle → s.store.wpHigh = true → exec (.saveConfig src seq []) s = .next (s.replied src seq [10]))
    ∧ (s.store.saving = .idle → s.store.wpHigh = false →
        exec (.saveConfig src seq []) s
          = .next { s.replied src seq [0] with store := { s.store with saving := .save } })

/-- A taken RESTART is answered OK and begins STOPPING (R170, R184, R188, R196): every slot free, the pass, quiet and
broadcast timers stopped, ACTIVE, a compressor 0 and a fan 0 in the queue with no moving compressor command before them,
and a defrost ended in the same step (R126). What STOPPING leaves in force is the model's reading (log 26). -/
def Obligations.RestartBeginsStopping : Prop :=
  ∀ (s : State) (src seq : Byte), s.phase = .running → s.fromRoomNode src = true → (s.caller src).role = .service →
    (s.busy = true → exec (.restart src seq []) s = .next (s.replied src seq [9]))
    ∧ (s.busy = false →
      ∃ t, exec (.restart src seq []) s = .next t
        ∧ t.phase = .stopping ∧ t.resetAt = s.clock ∧ t.economy = .active ∧ t.quietTimer = .stopped
        ∧ t.engine = { s.engine with passTimer := .stopped }
        ∧ t.mgmt = { s.mgmt with period := .stopped, holdoff := .stopped, pending := false }
        ∧ t.room = RoomPort.reset
        ∧ t.roomOut = s.roomOut ++ [⟨src, s.ownAddress, 0x0E, seq, [0]⟩]
        ∧ t.seq.cmdQ = 0 ∧ t.seq.cmdF = 0 ∧ t.seq.defrostCtl = (if s.seq.defrostCtl = 1 then 0 else s.seq.defrostCtl)
        ∧ t.queue.holds .compressor 0 .sequencer ∧ t.queue.holds .fan 0 .sequencer
        ∧ (s.seq.defrostCtl = 1 → t.queue.holds .defrost 0 .sequencer)
        ∧ (∀ e ∈ t.queue.entries, e.act = .compressor → e.st ≠ .moving)
        ∧ (s.seq.cmdQ > 0 → t.seq.minOff = .running (s.clock + secs s.tables.plant.minOff)
            ∧ t.seq.equalize = .running (s.clock + secs s.tables.plant.equalize))
        ∧ (s.seq.defrosting = true → t.seq.state = .idle ∧ t.seq.phase = none ∧ t.seq.shadow = none ∧ t.seq.newest = none)
        ∧ (s.seq.defrosting = false → t.seq.state = s.seq.state)
        ∧ t.store = s.store ∧ t.tables = s.tables ∧ t.zones = s.zones ∧ t.meters = s.meters ∧ t.faults = s.faults
        ∧ t.port = s.port ∧ t.plantOut = s.plantOut)

/-! Frames to a proxy. -/

/-- A proxy frame that repeats no slot is classified by the first filter row that matches it, or by the default action, and
does what that action gives (R163, R164, R166): PASS takes a FREE slot and answers DEFERRED, or BUSY with none, or
NOT_PERMITTED for plant addresses 0 and 1; SERVE answers a POLL from the poll cache or NO_ANSWER, and a command
NOT_PERMITTED; REFUSE answers NOT_PERMITTED; DROP does nothing. The model takes the FREE slot of lowest index (log 14). -/
def Obligations.ProxyFrameIsFiltered : Prop :=
  ∀ (s : State) (f : Frame) (act : Int), s.phase = .running → Instr.wellFormed (.proxyFrame f) = true →
    f.src ≠ s.ownAddress → (∀ i, (s.room.slots.get i).repeatedBy f = false) →
    let hit (r : FilterRow) : Prop :=
      r.num 1 ≤ f.src.toNat ∧ (f.src.toNat : Int) ≤ r.num 2 ∧ r.num 3 ≤ f.dst.toNat ∧ (f.dst.toNat : Int) ≤ r.num 4
        ∧ (r.num 5 = 0 ∨ r.num 5 = 1 ∧ f.kind = 0x20 ∨ r.num 5 = 2 ∧ f.kind ≠ 0x20)
    ((∃ k, hit (s.tables.filter.get k) ∧ (∀ j, j < k → ¬ hit (s.tables.filter.get j))
        ∧ act = (s.tables.filter.get k).num 6)
      ∨ (∀ k, ¬ hit (s.tables.filter.get k)) ∧ act = s.tables.report.num 4) →
    let target := f.dst.toNat - 64
    (act = 0 → target ≤ 1 → exec (.proxyFrame f) s = .next (s.proxyAnswered f 2))
    ∧ (act = 0 → 2 ≤ target → (∀ i, s.room.slots.get i ≠ .free) → exec (.proxyFrame f) s = .next (s.proxyAnswered f 9))
    ∧ (act = 0 → 2 ≤ target → ∀ i, s.room.slots.get i = .free → (∀ j, j < i → s.room.slots.get j ≠ .free) →
        exec (.proxyFrame f) s = .next { s.proxyAnswered f 13 with
          room := ⟨s.room.slots.set i (.pending f.src f.dst f.kind f.seq (some f.payload)), s.room.passThrough ++ [i]⟩ })
    ∧ (act = 1 → f.kind = 0x20 → s.cached target = none → exec (.proxyFrame f) s = .next (s.proxyAnswered f 14))
    ∧ (act = 1 → f.kind = 0x20 → ∀ e, s.cached target = some e →
        exec (.proxyFrame f) s = .next { s with
          roomOut := s.roomOut ++ [⟨f.src, f.dst, e.body.reply.1, f.seq, e.body.reply.2⟩] })
    ∧ (act = 1 → f.kind ≠ 0x20 → exec (.proxyFrame f) s = .next (s.proxyAnswered f 2))
    ∧ (act = 2 → exec (.proxyFrame f) s = .next (s.proxyAnswered f 2))
    ∧ (act = 3 → exec (.proxyFrame f) s = .next s)

/-- A proxy frame that repeats a slot is answered from the slot whatever its payload and whatever the filter table says
(R167): DEFERRED while PENDING, with the slot unchanged; the held reply or NO_ANSWER while READY, and the slot is then
FREE. -/
def Obligations.ProxyRepeatIsAnswered : Prop :=
  ∀ (s : State) (f : Frame) (i : Fin 4), s.phase = .running → Instr.wellFormed (.proxyFrame f) = true →
    f.src ≠ s.ownAddress → (∀ j, j < i → (s.room.slots.get j).repeatedBy f = false) →
    (∀ p, s.room.slots.get i = .pending f.src f.dst f.kind f.seq p →
      exec (.proxyFrame f) s = .next (s.proxyAnswered f 13))
    ∧ (∀ k p t, s.room.slots.get i = .ready f.src f.dst f.kind f.seq (some (k, p)) t →
      exec (.proxyFrame f) s = .next { s with
        room := ⟨s.room.slots.set i .free, s.room.passThrough⟩
        roomOut := s.roomOut ++ [⟨f.src, f.dst, k, f.seq, p⟩] })
    ∧ (∀ t, s.room.slots.get i = .ready f.src f.dst f.kind f.seq none t →
      exec (.proxyFrame f) s = .next { s.proxyAnswered f 14 with
        room := ⟨s.room.slots.set i .free, s.room.passThrough⟩ })

/-! The pass. -/

/-- The pass timer's expiry runs one pass, and the sequencer takes its result (R37, R42, R63). The pass number rises by 1 and
wraps; stage 1 forms the demands (R45 to R47), the vote settles the served side with its lockout timer and flags (R49, R53
to R56) and the starvation (R50), stage 4 settles mode, low-capacity count and dry exclusion (R57 to R62); the result
becomes the latest and the newest, each enabled zone's record stores what the pass produced for it and no zone's calls,
reading or setpoints change; the timer starts again with the period of the economy state. What the sequencer does with the
result is what its plant state gives (R90 to R99, R101 to R103, R105, R108, R118), with its commands in one order. That order
is R88's, but for the valve before the fan on entering START_WAIT and the fan before the valve at the end of the overrun,
which R88 leaves open and the model chooses (log 13); so is the limit's rise before the start value of a result taken outside
RUN (log 19). The origins (log 12), the meters taken at a stop (log 20), Qmin sent once under a hold (log 29), the mark of a
failed valve command (log 31), the low-capacity count on entering a side (log 32) and the order at an overrun time of 0
(log 37) are its readings. -/
def Obligations.PassTimerRunsOnePass : Prop :=
  ∀ s : State, s.engine.passTimer.isRunning = true →
    ∃ t r, exec .passTimerExpiry s = .next t
      ∧ t.engine.latest = some r ∧ t.seq.newest = some r
      ∧ r.number = (s.engine.passNumber + 1) % 4294967296 ∧ t.engine.passNumber = r.number
      ∧ t.engine.served = r.served ∧ t.engine.prevQ = r.q
      ∧ s.demanded t ∧ s.voted t r ∧ s.starved t r ∧ s.capacitated t r
      ∧ t.engine.passTimer = .running (s.clock + secs
          (if s.economy = .active then s.tables.plant.passPeriod else s.tables.plant.quietPassPeriod))
      ∧ (∀ z, (s.row z).enabled = true → (t.zone z).target = r.targets.get z ∧ (r.targets.get z).isSome = true)
      ∧ (∀ z, (s.row z).enabled = false → t.zone z = s.zone z ∧ r.targets.get z = none)
      ∧ (∀ z, t.zone z = { s.zone z with
          acc := (t.zone z).acc, dem := (t.zone z).dem, dryDem := (t.zone z).dryDem
          dryExcluded := (t.zone z).dryExcluded, target := (t.zone z).target })
      ∧ (s.tables.safe → s.seq.recordSafe → s.minOffSafe → s.follows t s.queue (s.resultPlan r))
      ∧ s.sentOnly t [] ∧ t.tables = s.tables ∧ t.economy = s.economy ∧ t.quietTimer = s.quietTimer
      ∧ t.port = s.port ∧ t.room = s.room ∧ t.uptime = s.uptime ∧ t.faults = s.faults ∧ t.plantOut = s.plantOut

/-- Stages 5 to 8 of a pass, and the bounds of its result. Every target is the zone's own (R66, R67) or that of relief, which
is applied where the open capacity is short (R70, R71), follows the relief list and then forces zones open (R72 to R76) and
stops as soon as the open capacity is enough; the airflow is the base airflow less the latent boost within the allowance, and
the capacity is stopped or capped by it (R77 to R82). The capacity is 0 or within Qmin..1000, the airflow within 0..100 and
at least Fmin under a capacity, every target within 0..100, and the relief used list names no zone twice (R43, R76, R90). -/
def Obligations.PassResultIsBounded : Prop :=
  ∀ s : State, s.engine.passTimer.isRunning = true → s.tables.safe → s.cacheSafe →
    ∃ t r, exec .passTimerExpiry s = .next t ∧ t.engine.latest = some r
      ∧ s.allocated t r ∧ s.aired t r
      ∧ (r.q = 0 ∨ s.tables.plant.qmin ≤ r.q ∧ r.q ≤ 1000) ∧ 0 ≤ r.f ∧ r.f ≤ 100
      ∧ (r.q > 0 → s.tables.plant.fmin ≤ r.f)
      ∧ (r.q > 0 → r.mode = .cool ∨ r.mode = .heat ∨ r.mode = .dry)
      ∧ (r.mode = .cool ∨ r.mode = .dry → r.served = some .cool) ∧ (r.mode = .heat → r.served = some .heat)
      ∧ (∀ z v, r.targets.get z = some v → 0 ≤ v ∧ v ≤ 100)
      ∧ r.relief.Nodup ∧ r.relief.length ≤ 12 ∧ (r.forcedRelief = true → r.relief ≠ [])

/-- The whole minute (R51, R111, R112, R198, R199): the uptime counter, the minute meters by the state at that moment, the
frost time and the starvation minutes, and then a defrost where one is wanted and min run has elapsed. The order within
the minute is the model's reading (log 33). -/
def Obligations.MinuteCounts : Prop :=
  ∀ s : State, ∃ t, exec .uptimeMinute s = .next t
    ∧ t.uptime = min 4294967295 (s.uptime + 1)
    ∧ (let on := s.seq.cmdQ > 0
       let up (m : Fin 23) (cond : Prop) : Prop :=
         (cond → t.meters.get m = min 4294967295 (s.meters.get m + 1)) ∧ (¬ cond → t.meters.get m = s.meters.get m)
       up 0 on
       ∧ up 2 (on ∧ (s.seq.state = .run ∧ s.seq.runSide = some .heat ∨ s.seq.state = .recovery))
       ∧ up 3 (on ∧ s.seq.state = .run ∧ s.seq.runSide = some .cool ∧ s.seq.inForce.map PassResult.mode = some .cool)
       ∧ up 4 (on ∧ s.seq.state = .run ∧ s.seq.runSide = some .cool ∧ s.seq.inForce.map PassResult.mode = some .dry)
       ∧ (∀ z : Fin 12, up ⟨z + 11, by omega⟩ ((s.zone z).heat = true ∨ (s.zone z).cool = true ∨ (s.zone z).dry = true))
       ∧ (∀ m : Fin 23, m.val = 1 ∨ 6 ≤ m.val ∧ m.val ≤ 10 → t.meters.get m = s.meters.get m))
    ∧ (let frosted := s.seq.state = .run ∧ s.seq.runSide = some .heat
         ∧ ∃ d, s.outdoorEntry = some d ∧ d.coil ≤ s.tables.plant.frostCoil
       (frosted → t.seq.frostTime = min 65535 (s.seq.frostTime + 1))
       ∧ (¬ frosted → t.seq.frostTime = s.seq.frostTime))
    ∧ (∀ z, t.engine.starve.get z =
        if s.engine.mark.get z = true ∧ (s.row z).enabled = true ∧ (s.row z).voting = true ∧ (s.zone z).reading = .fresh
        then min 65535 (s.engine.starve.get z + 1) else s.engine.starve.get z)
    ∧ (let frost : Int := t.seq.frostTime
       let wanted := s.phase ≠ .stopping ∧ s.seq.state = .run ∧ s.seq.runSide = some .heat ∧ s.seq.minRun = .stopped
         ∧ (s.tables.plant.defrostInterval ≤ frost
           ∨ (∃ d, s.outdoorEntry = some d ∧ d.frostFlag = true) ∧ s.tables.plant.defrostMinimum ≤ frost)
       (wanted → t.seq.state = .defrost ∧ t.seq.phase = some .pauseIn ∧ t.seq.shadow = s.seq.newest ∧ t.seq.cmdQ = 0
         ∧ t.seq.cmdF = 0 ∧ t.seq.pauseTimer = .running (s.clock + secs s.tables.plant.defrostPause)
         ∧ t.queue.holds .compressor 0 .sequencer ∧ t.queue.holds .fan 0 .sequencer
         ∧ t.meters.get 5 = min 4294967295 (s.meters.get 5 + 1))
       ∧ (¬ wanted → t.seq = { s.seq with frostTime := t.seq.frostTime } ∧ t.queue = s.queue
         ∧ t.meters.get 5 = s.meters.get 5 ∧ t.store = s.store ∧ t.roomOut = s.roomOut))
    ∧ t.tables = s.tables ∧ t.zones = s.zones ∧ t.port = s.port ∧ t.room = s.room ∧ t.faults = s.faults

/-! The sequencer's timers. -/

/-- The min run timer's expiry (R96, R97, R112). With the min run hold and a newest result that does not continue the run
the compressor stops: at 0, with the fan at Fmin and OVERRUN where there is an overrun time, and otherwise with the newest
result taken in the same step (R98, R99). A newest result that continues the run is carried out (R95, R102). A defrost that
is then wanted is entered, in the same step as the result is carried out where there was a hold (R114). Where no hold is
active and no defrost is wanted only the timer's elapsing is seen. The origins (log 12), the limit adjusted where the run
continues (log 19), the meters taken (log 20), the mark of a failed valve command (log 31) and the order of an event that
both stops and carries out (log 37) are the model's readings; the fan before the valve at an overrun time of 0 (log 13) is
its choice. -/
def Obligations.MinRunExpiry : Prop :=
  (∀ s : State, s.phase ≠ .stopping → s.seq.minRun.isRunning = true →
    (s.seq.minRunHold = false → s.defrostWanted = false →
      exec .minRunExpiry s = .next { s with seq := { s.seq with minRun := .stopped } })
    ∧ (∀ r, s.seq.state = .run → s.seq.minRunHold = true → s.seq.newest = some r →
        ¬ (r.q > 0 ∧ r.served = s.seq.runSide) → s.tables.plant.overrun > 0 → s.seq.cmdQ > 0 →
        ∃ t, exec .minRunExpiry s = .next t
          ∧ t.seq = { s.seq with
              state := .overrun, runSide := none, cmdQ := 0, cmdF := s.tables.plant.fmin
              minRun := .stopped, coldDraft := .stopped, coilFreeze := .stopped
              minRunHold := false, coldDraftHold := false, coilFreezeHold := false
              minOff := .running (s.clock + secs s.tables.plant.minOff)
              equalize := .running (s.clock + secs s.tables.plant.equalize)
              overrun := .running (s.clock + secs s.tables.plant.overrun) }
          ∧ t.queue = (s.queue.enqueue .compressor 0 .sequencer).enqueue .fan s.tables.plant.fmin .sequencer
          ∧ (s.store.saving = .idle ∧ s.store.wpHigh = false ∧ 60 ≤ s.uptime - s.store.lastMeterWrite →
              t.store = { s.store with saving := .meterWrite s.meters8 })
          ∧ (¬ (s.store.saving = .idle ∧ s.store.wpHigh = false ∧ 60 ≤ s.uptime - s.store.lastMeterWrite) →
              t.store = s.store)
          ∧ t.zones = s.zones ∧ t.tables = s.tables ∧ t.engine = s.engine ∧ t.port = s.port ∧ t.meters = s.meters
          ∧ t.faults = s.faults))
  ∧ ∀ (s : State) (r : PassResult), s.phase ≠ .stopping → s.seq.minRun.isRunning = true → s.seq.newest = some r →
    s.tables.safe → s.seq.recordSafe → s.minOffSafe →
    let q : Sequencer := { s.seq with minRun := .stopped }
    let continues : Prop := 0 < r.q ∧ r.served = s.seq.runSide
    ∃ t, exec .minRunExpiry s = .next t
      ∧ (s.seq.minRunHold = false → (s.wantsDefrost → s.entersDefrost t (s.defrostPlan q))
          ∧ (¬ s.wantsDefrost → s.follows t s.queue ⟨q, []⟩))
      ∧ (s.seq.minRunHold = true → ¬ continues → s.follows t s.queue (s.stopPlan q r))
      ∧ (s.seq.minRunHold = true → continues → (s.wantsDefrost → s.entersDefrost t (s.continuedDefrostPlan q r))
          ∧ (¬ s.wantsDefrost → s.follows t s.queue (s.runPlan q r)))
      ∧ s.sentOnly t [] ∧ t.zones = s.zones ∧ t.tables = s.tables ∧ t.engine = s.engine ∧ t.port = s.port
      ∧ t.room = s.room ∧ t.faults = s.faults ∧ t.plantOut = s.plantOut

/-- The min off timer's expiry. In START_WAIT with the valve at the pending result's side it starts the run (R88, R89, R93,
R94, R101): RUN on that side with the compressor at clamp(Qmin, 1000, min(Q, capacity limit)), min run started, a start
counted, and the fan at 0 under the cold-draft hold on the HEAT side and at F on the COOL side; in every other case of
START_WAIT it is the start test (R91), but nothing where a valve command has failed since the last result taken (R93). In
START_IN it starts the melt at Qdef (R117); in START_OUT it is the recovery start test, which starts the compressor at the
shadow's Q or leaves for IDLE (R122). With no newest result only the timer's elapsing is seen. The origins (log 12) and the
mark of a failed valve command (log 31) are the model's readings; that IDLE, entering START_WAIT, sends the valve before the
fan (log 13) is its choice. -/
def Obligations.MinOffExpiryStarts : Prop :=
  (∀ (s : State) (r : PassResult) (d : Side), s.phase ≠ .stopping → s.seq.minOff.isRunning = true →
    s.seq.state = .startWait → s.seq.valveFailed = false → s.seq.newest = some r → r.q > 0 → r.served = some d →
    s.seq.valveDir = some d → s.seq.cmdQ = 0 → s.tables.safe →
    let q := clamp s.tables.plant.qmin 1000 (min r.q s.seq.capLimit)
    let fan := if d = .heat then 0 else r.f
    ∃ t, exec .minOffExpiry s = .next t
      ∧ t.seq = { s.seq with
          state := .run, runSide := some d, inForce := some r, cmdQ := q, cmdF := fan, minOff := .stopped
          minRun := .running (s.clock + secs s.tables.plant.minRun)
          minRunHold := false, coilFreezeHold := false, coilFreeze := .stopped
          coldDraftHold := decide (d = .heat)
          coldDraft := if d = .heat then .running (s.clock + secs s.tables.plant.coldDraftHold) else .stopped }
      ∧ t.meters = s.meters.set 1 (min 4294967295 (s.meters.get 1 + 1))
      ∧ t.queue.holds .compressor q .pass ∧ t.queue.holds .fan fan (if d = .heat then .sequencer else .pass)
      ∧ (∀ z v, (s.row z).enabled = true → r.targets.get z = some v → t.queue.holds (.damper z) v .pass)
      ∧ s.sentOnly t []
      ∧ t.zones = s.zones ∧ t.tables = s.tables ∧ t.engine = s.engine ∧ t.port = s.port ∧ t.store = s.store
      ∧ t.faults = s.faults ∧ t.plantOut = s.plantOut)
  ∧ (∀ s : State, s.phase ≠ .stopping → s.seq.minOff.isRunning = true → s.seq.newest = none → s.seq.recordSafe →
    exec .minOffExpiry s = .next { s with seq := { s.seq with minOff := .stopped } })
  ∧ ∀ (s : State) (r : PassResult), s.phase ≠ .stopping → s.seq.minOff.isRunning = true → s.seq.newest = some r →
    s.tables.safe → s.seq.recordSafe → s.minOffSafe →
    let q : Sequencer := { s.seq with minOff := .stopped }
    ∃ t, exec .minOffExpiry s = .next t
      ∧ (s.seq.state = .startWait → s.follows t s.queue (if s.seq.valveFailed then ⟨q, []⟩ else s.startTestPlan q r))
      ∧ (s.seq.phase = some .startIn → s.follows t s.queue (s.meltPlan q))
      ∧ (s.seq.phase = some .startOut → s.follows t s.queue (s.recoveryPlan q r))
      ∧ (s.seq.state ≠ .startWait → s.seq.phase ≠ some .startIn → s.seq.phase ≠ some .startOut →
          s.follows t s.queue ⟨q, []⟩)
      ∧ s.sentOnly t [] ∧ t.zones = s.zones ∧ t.tables = s.tables ∧ t.engine = s.engine ∧ t.port = s.port
      ∧ t.faults = s.faults ∧ t.plantOut = s.plantOut

/-- The equalize timer's expiry in EQUALIZE sends the valve to the pending result's side and waits in START_WAIT (R87,
R99), and in START_WAIT it is the start test, but nothing where a valve command has failed since the last result taken (R91,
R93). The overrun timer's expiry carries out a newest result without capacity as IDLE or FAN_ONLY (R92, R98); with capacity
it sends the fan to 0 or Fcirc and, with the valve on the result's side, waits in START_WAIT for min off or starts the run,
and otherwise enters EQUALIZE or, with equalize elapsed, sends the valve (R98, R99). With a valve command in flight EQUALIZE
is left for START_WAIT and nothing is sent (R87), and in every other state an elapsed equalize is only seen. The origins
(log 12), the mark of a failed valve command (log 31) and the fan of R98 before the start's own fan (log 37) are the model's
readings; the fan of R98 before the valve (log 13) is its choice. -/
def Obligations.EqualizeAndOverrunExpiry : Prop :=
  (∀ s : State, s.phase ≠ .stopping → s.seq.equalize.isRunning = true →
    (s.seq.state = .equalize → s.seq.inFlight.isSome = true →
      ∃ t, exec .equalizeExpiry s = .next t
        ∧ t = { s with seq := { s.seq with state := .startWait, equalize := .stopped }, roomOut := t.roomOut, mgmt := t.mgmt }
        ∧ s.sentOnly t [])
    ∧ (s.seq.state ≠ .equalize → s.seq.state ≠ .startWait →
        exec .equalizeExpiry s = .next { s with seq := { s.seq with equalize := .stopped } }))
  ∧   (∀ (s : State) (r : PassResult) (d : Side), s.phase ≠ .stopping → s.seq.equalize.isRunning = true →
    s.seq.state = .equalize → s.seq.newest = some r → r.served = some d → s.seq.inFlight = none →
    ∃ t, exec .equalizeExpiry s = .next t
      ∧ t.seq = { s.seq with state := .startWait, equalize := .stopped, valveDir := none, inFlight := some d }
      ∧ t.queue = s.queue.enqueue .valve (if d = .heat then 1 else 0) .sequencer
      ∧ s.sentOnly t []
      ∧ t.zones = s.zones ∧ t.tables = s.tables ∧ t.engine = s.engine ∧ t.port = s.port ∧ t.store = s.store
      ∧ t.meters = s.meters ∧ t.faults = s.faults)
  ∧ (∀ (s : State) (r : PassResult), s.phase ≠ .stopping → s.seq.equalize.isRunning = true →
    s.seq.state = .startWait → s.seq.newest = some r → s.tables.safe → s.minOffSafe →
    let q : Sequencer := { s.seq with equalize := .stopped }
    ∃ t, exec .equalizeExpiry s = .next t
      ∧ s.follows t s.queue (if s.seq.valveFailed then ⟨q, []⟩ else s.startTestPlan q r)
      ∧ s.sentOnly t [] ∧ t.zones = s.zones ∧ t.tables = s.tables ∧ t.engine = s.engine ∧ t.port = s.port
      ∧ t.faults = s.faults)
  ∧ (∀ (s : State) (r : PassResult) (d : Side), s.phase ≠ .stopping → s.seq.overrun.isRunning = true →
    s.seq.state = .overrun → s.seq.newest = some r → r.q > 0 → r.served = some d → s.tables.safe → s.minOffSafe →
    ∃ t, exec .overrunExpiry s = .next t
      ∧ s.follows t s.queue (s.overrunPlan { s.seq with overrun := .stopped } r)
      ∧ s.sentOnly t [] ∧ t.zones = s.zones ∧ t.tables = s.tables ∧ t.engine = s.engine ∧ t.port = s.port
      ∧ t.faults = s.faults)
  ∧ ∀ (s : State) (r : PassResult), s.phase ≠ .stopping → s.seq.overrun.isRunning = true →
    s.seq.state = .overrun → s.seq.newest = some r → r.q ≤ 0 →
    ∃ t, exec .overrunExpiry s = .next t
      ∧ t.seq = { s.seq with
          state := if r.f > 0 then .fanOnly else .idle, overrun := .stopped, inForce := some r, cmdF := r.f }
      ∧ t.queue.holds .fan r.f .pass
      ∧ (∀ z v, (s.row z).enabled = true → r.targets.get z = some v → t.queue.holds (.damper z) v .pass)
      ∧ s.sentOnly t []
      ∧ t.zones = s.zones ∧ t.tables = s.tables ∧ t.engine = s.engine ∧ t.port = s.port ∧ t.store = s.store
      ∧ t.meters = s.meters ∧ t.faults = s.faults

/-- The cold-draft hold timer's expiry in RUN ends the hold and sends the fan to the F of the result in force (R101). In
WARMING it ends recovery in RUN on the HEAT side, which takes the shadow's result: a heating one is carried out (R95, R123),
any other meets the min run hold or the stop (R96, R97, R123). The origins (log 12), the capacity limit at the end of
recovery (log 19), the meters taken at a stop (log 20), Qmin sent once under the hold (log 29), the mark of a failed valve
command (log 31) and the order at an overrun time of 0 (log 37) are the model's readings; that no fan is sent where R96 takes
the result (log 41), and the fan before the valve at an overrun time of 0 (log 13), are its choices. -/
def Obligations.ColdDraftExpiry : Prop :=
  (∀ (s : State) (r : PassResult), s.phase ≠ .stopping → s.seq.coldDraft.isRunning = true →
    s.seq.state = .run → s.seq.coldDraftHold = true → s.seq.inForce = some r →
    exec .coldDraftHoldExpiry s = .next { s with
      seq := { s.seq with coldDraftHold := false, coldDraft := .stopped, cmdF := r.f }
      queue := s.queue.enqueue .fan r.f .pass })
  ∧ (∀ (s : State) (r : PassResult), s.phase ≠ .stopping → s.seq.coldDraft.isRunning = true →
    s.seq.phase = some .warming → s.seq.shadow = some r → s.tables.safe → s.seq.recordSafe → s.minOffSafe →
    ∃ t, exec .coldDraftHoldExpiry s = .next t
      ∧ s.follows t s.queue (s.runPlan { s.seq with
          coldDraftHold := false, coldDraft := .stopped, shadow := none, phase := none, state := .run
          runSide := some .heat } r)
      ∧ s.sentOnly t [] ∧ t.zones = s.zones ∧ t.tables = s.tables ∧ t.engine = s.engine ∧ t.port = s.port
      ∧ t.room = s.room ∧ t.faults = s.faults ∧ t.plantOut = s.plantOut)
  ∧ ∀ (s : State) (r : PassResult), s.phase ≠ .stopping → s.seq.coldDraft.isRunning = true →
    s.seq.state = .recovery → s.seq.phase = some .warming → s.seq.shadow = some r → r.q > 0 → r.served = some .heat →
    s.seq.coilFreezeHold = false →
    ∃ t, exec .coldDraftHoldExpiry s = .next t
      ∧ t.seq.state = .run ∧ t.seq.runSide = some .heat ∧ t.seq.phase = none ∧ t.seq.shadow = none
      ∧ t.seq.inForce = some r ∧ t.seq.coldDraftHold = false ∧ t.seq.coldDraft = .stopped
      ∧ t.seq.cmdQ = clamp s.tables.plant.qmin 1000 (min r.q t.seq.capLimit) ∧ t.seq.cmdF = r.f
      ∧ t.queue.holds .compressor t.seq.cmdQ .pass ∧ t.queue.holds .fan r.f .pass
      ∧ (∀ z v, (s.row z).enabled = true → r.targets.get z = some v → t.queue.holds (.damper z) v .pass)
      ∧ s.sentOnly t [] ∧ t.zones = s.zones ∧ t.tables = s.tables ∧ t.engine = s.engine ∧ t.port = s.port

/-- The coil freeze timer's expiry with the hold active takes COIL_FREEZE (R103, R104, R107): the compressor at 0 whatever
min run, every hold ended, the fault entry with the latest indoor coil, one lockout counted and the history appended;
LOCKOUT with the fan at Fmin, or HARD_LOCKOUT with the fan at 0 and its own entry where three such causes fall within 60
minutes. The origins are the model's reading of R88 (log 12). -/
def Obligations.CoilFreezeLocksOut : Prop :=
  ∀ s : State, s.phase ≠ .stopping → s.seq.coilFreeze.isRunning = true → s.seq.coilFreezeHold = true →
    s.seq.state = .run → s.seq.causes = Causes.empty → s.seq.defrostCtl = 0 → s.seq.cmdQ > 0 →
    s.seq.history.length ≤ 3 →
    let history := (if s.seq.history.length = 3 then s.seq.history.drop 1 else s.seq.history) ++ [s.uptime]
    let span := history.getLastD 0 - history.headD 0
    let hard := history.length = 3 ∧ span ≤ 60
    let entry : FaultEntry := ⟨.coilFreeze, s.indoorAddress, s.uptime, s.seq.indoorCoil⟩
    ∃ t, exec .coilFreezeTimerExpiry s = .next t
      ∧ t.seq.state = (if hard then .hardLockout else .lockout) ∧ t.seq.history = history
      ∧ t.seq.displayed = (if hard then none else some .coilFreeze)
      ∧ t.seq.causes = (if hard then Causes.empty else { Causes.empty with
          coilFreeze := true, freezeTimer := .running (s.clock + secs s.tables.plant.lockoutTime) })
      ∧ t.seq.cmdQ = 0 ∧ t.seq.cmdF = (if hard then 0 else s.tables.plant.fmin)
      ∧ t.queue.holds .compressor 0 .sequencer ∧ t.queue.holds .fan t.seq.cmdF .sequencer
      ∧ t.seq.minOff = .running (s.clock + secs s.tables.plant.minOff)
      ∧ t.seq.equalize = .running (s.clock + secs s.tables.plant.equalize)
      ∧ t.seq.minRun = .stopped ∧ t.seq.coilFreeze = .stopped ∧ t.seq.coldDraft = .stopped ∧ t.seq.overrun = .stopped
      ∧ t.seq.runSide = none ∧ t.seq.minRunHold = false ∧ t.seq.coilFreezeHold = false ∧ t.seq.coldDraftHold = false
      ∧ t.seq.newest = s.seq.newest
      ∧ t.faults = (if hard then
          pushFault (pushFault s.faults entry) ⟨.hardLockout, 0, s.uptime, (span : Nat)⟩ else pushFault s.faults entry)
      ∧ t.meters = s.meters.set 7 (min 4294967295 (s.meters.get 7 + 1))
      ∧ s.sentOnly t [] ∧ t.zones = s.zones ∧ t.tables = s.tables ∧ t.engine = s.engine ∧ t.port = s.port

/-- A lockout time's expiry ends its cause (R100, R105, R106), that of CONDENSATE only where a NORMAL float has been filed and
otherwise with the timer alone stopped. The last cause's end leaves LOCKOUT for IDLE, which takes the newest result (R91,
R92, R105), with the fan sent to 0 where there is none; another cause keeps LOCKOUT and its displayed cause, with the fan as
the causes left give. That the displayed cause stands after its own end (log 25), the origins (log 12) and the mark of a
failed valve command (log 31) are the model's readings; the valve before the fan on entering START_WAIT (log 13) is its
choice. -/
def Obligations.LockoutTimeExpiry : Prop :=
  (∀ (s : State) (c : LockoutCause), s.phase ≠ .stopping → (s.seq.causes.timer c).isRunning = true →
    s.seq.causes.has c = true → (c = .condensate → s.seq.causes.condNormalSeen = true) →
    let left := s.seq.causes.remove c
    let blows (cs : Causes) : Prop := cs.condensate = true ∨ cs.coilFreeze = true
    (left.any = false → s.seq.newest = none →
      ∃ t, exec (.lockoutTimeExpiry c) s = .next t
        ∧ t.seq = { s.seq with causes := left, displayed := none, state := .idle, cmdF := 0 }
        ∧ t.queue = s.queue.enqueue .fan 0 .sequencer ∧ s.sentOnly t []
        ∧ t.zones = s.zones ∧ t.tables = s.tables ∧ t.engine = s.engine ∧ t.port = s.port ∧ t.meters = s.meters
        ∧ t.faults = s.faults ∧ t.store = s.store)
    ∧ (left.any = false → s.tables.safe → s.seq.recordSafe → s.minOffSafe → ∀ r, s.seq.newest = some r →
      ∃ t, exec (.lockoutTimeExpiry c) s = .next t
        ∧ s.follows t s.queue (s.idlePlan { s.seq with causes := left, displayed := none, state := .idle } r)
        ∧ s.sentOnly t [] ∧ t.zones = s.zones ∧ t.tables = s.tables ∧ t.engine = s.engine ∧ t.port = s.port
        ∧ t.room = s.room ∧ t.faults = s.faults ∧ t.plantOut = s.plantOut)
    ∧ (left.any = true →
      (blows s.seq.causes → ¬ blows left → exec (.lockoutTimeExpiry c) s = .next { s with
        seq := { s.seq with causes := left, cmdF := 0 }, queue := s.queue.enqueue .fan 0 .sequencer })
      ∧ ((blows s.seq.causes → blows left) →
        exec (.lockoutTimeExpiry c) s = .next { s with seq := { s.seq with causes := left } })))
  ∧ ∀ s : State, s.phase ≠ .stopping → s.seq.causes.condTimer.isRunning = true → s.seq.causes.condNormalSeen = false →
    exec (.lockoutTimeExpiry .condensate) s
      = .next { s with seq := { s.seq with causes := { s.seq.causes with condTimer := .stopped } } }

/-- The defrost pause's expiry: in PAUSE_IN the valve is sent to COOL and then the defrost control to 1, both with origin
SEQUENCER, and the phase becomes VALVE_IN (R115); in PAUSE_OUT a shadow that wants heat sends the valve to HEAT and begins
RECOVERY, and any other shadow is taken as IDLE takes a result (R121): one without capacity is carried out as IDLE or
FAN_ONLY (R92), one on the COOL side meets the start test (R91). The origins (log 12) and the mark of a failed valve command
(log 31) are the model's readings; the valve before the fan on entering START_WAIT (log 13) is its choice. -/
def Obligations.DefrostPauseExpiry : Prop :=
  (∀ s : State, s.phase ≠ .stopping → s.seq.pauseTimer.isRunning = true → s.seq.phase = some .pauseIn →
    exec .defrostPauseExpiry s = .next { s with
      seq := { s.seq with
        pauseTimer := .stopped, valveDir := none, inFlight := some .cool, defrostCtl := 1, phase := some .valveIn }
      queue := (s.queue.enqueue .valve 0 .sequencer).enqueue .defrost 1 .sequencer })
  ∧ (∀ (s : State) (r : PassResult), s.phase ≠ .stopping → s.seq.pauseTimer.isRunning = true →
    s.seq.phase = some .pauseOut → s.seq.shadow = some r → r.served = some .heat → r.q > 0 →
    ∃ t, exec .defrostPauseExpiry s = .next t
      ∧ t.seq = { s.seq with
          state := .recovery, phase := some .valveOut, pauseTimer := .stopped, valveDir := none, inFlight := some .heat }
      ∧ t.queue = s.queue.enqueue .valve 1 .sequencer ∧ s.sentOnly t []
      ∧ t.zones = s.zones ∧ t.tables = s.tables ∧ t.engine = s.engine ∧ t.port = s.port ∧ t.meters = s.meters
      ∧ t.faults = s.faults ∧ t.store = s.store)
  ∧ (∀ (s : State) (r : PassResult), s.phase ≠ .stopping → s.seq.pauseTimer.isRunning = true →
    s.seq.phase = some .pauseOut → s.seq.shadow = some r → ¬ (r.served = some .heat ∧ 0 < r.q) →
    s.tables.safe → s.seq.recordSafe → s.minOffSafe →
    ∃ t, exec .defrostPauseExpiry s = .next t
      ∧ s.follows t s.queue (s.leavePlan { s.seq with pauseTimer := .stopped } r)
      ∧ s.sentOnly t [] ∧ t.zones = s.zones ∧ t.tables = s.tables ∧ t.engine = s.engine ∧ t.port = s.port
      ∧ t.room = s.room ∧ t.faults = s.faults ∧ t.plantOut = s.plantOut)
  ∧ ∀ (s : State) (r : PassResult), s.phase ≠ .stopping → s.seq.pauseTimer.isRunning = true →
    s.seq.phase = some .pauseOut → s.seq.shadow = some r → s.seq.newest = some r → r.q ≤ 0 →
    ∃ t, exec .defrostPauseExpiry s = .next t
      ∧ t.seq = { s.seq with
          state := if r.f > 0 then .fanOnly else .idle, phase := none, shadow := none, pauseTimer := .stopped
          inForce := some r, cmdF := r.f }
      ∧ t.queue.holds .fan r.f .pass ∧ s.sentOnly t []
      ∧ t.zones = s.zones ∧ t.tables = s.tables ∧ t.engine = s.engine ∧ t.port = s.port ∧ t.meters = s.meters
      ∧ t.faults = s.faults ∧ t.store = s.store

/-- The defrost max timer's expiry in MELT ends the defrost as incomplete (R120): one DEFROST_INCOMPLETE entry and one
count on meter 6. The first in a row stops the compressor, sends the defrost control to 0 and waits in PAUSE_OUT with the
frost time at 0; the second takes OUTDOOR_FAULT with detail 0 and empties the shadow (R104, R125). The order of the
commands of one step is the model's reading (log 13). -/
def Obligations.DefrostMaxExpiry : Prop :=
  ∀ s : State, s.phase ≠ .stopping → s.seq.maxTimer.isRunning = true → s.seq.state = .defrost →
    s.seq.phase = some .melt → s.seq.cmdQ > 0 →
    let coil := (s.outdoorEntry.map OutdoorData.coil).getD 0
    let entry : FaultEntry := ⟨.defrostIncomplete, s.outdoorAddress, s.uptime, coil⟩
    (s.seq.incomplete = 0 →
      ∃ t, exec .defrostMaxExpiry s = .next t
        ∧ t.seq = { s.seq with
            incomplete := 1, frostTime := 0, cmdQ := 0, defrostCtl := 0, phase := some .pauseOut
            minRun := .stopped, maxTimer := .stopped
            minOff := .running (s.clock + secs s.tables.plant.minOff)
            equalize := .running (s.clock + secs s.tables.plant.equalize)
            pauseTimer := .running (s.clock + secs s.tables.plant.defrostPause) }
        ∧ t.queue = (s.queue.enqueue .compressor 0 .sequencer).enqueue .defrost 0 .sequencer
        ∧ t.faults = pushFault s.faults entry
        ∧ t.meters = s.meters.set 6 (min 4294967295 (s.meters.get 6 + 1))
        ∧ t.roomOut = s.roomOut ∧ t.zones = s.zones ∧ t.tables = s.tables ∧ t.engine = s.engine ∧ t.port = s.port)
    ∧ (s.seq.incomplete = 1 → s.seq.causes = Causes.empty → s.seq.history = [] → s.seq.defrostCtl = 1 →
      ∃ t, exec .defrostMaxExpiry s = .next t
        ∧ t.seq.state = .lockout ∧ t.seq.displayed = some .outdoorFault ∧ t.seq.causes.outdoorFault = true
        ∧ t.seq.history = [s.uptime] ∧ t.seq.incomplete = 0 ∧ t.seq.frostTime = s.seq.frostTime
        ∧ t.seq.shadow = none ∧ t.seq.newest = none ∧ t.seq.phase = none ∧ t.seq.cmdQ = 0 ∧ t.seq.cmdF = 0
        ∧ t.seq.defrostCtl = 0
        ∧ t.queue = ((s.queue.enqueue .compressor 0 .sequencer).enqueue .defrost 0 .sequencer).enqueue .fan 0 .sequencer
        ∧ t.faults = pushFault (pushFault s.faults entry) ⟨.outdoorFault, s.outdoorAddress, s.uptime, 0⟩
        ∧ t.meters.get 6 = min 4294967295 (s.meters.get 6 + 1) ∧ t.meters.get 7 = min 4294967295 (s.meters.get 7 + 1)
        ∧ s.sentOnly t [] ∧ t.zones = s.zones ∧ t.tables = s.tables ∧ t.engine = s.engine ∧ t.port = s.port)

/-! The plant bus. -/

/-- A free slot with no retransmission due (R133, R135, R144, R147): a due poll goes first where none of the last three
grants was a poll; otherwise the oldest WAITING command whose actuator is not reserved is issued, with its address, the
next sequence and a 50 ms reply window; a due poll comes last; and with no candidate nothing happens. The count a frame
carries (log 10) and the address of a turn (log 24) are the model's readings. -/
def Obligations.SlotIsGranted : Prop :=
  ∀ s : State, s.phase ≠ .loading → s.port.exchange = none → s.port.retx = none →
    let seq := s.port.seqCount
    let polled (r : Round) : State := { s with
      plantOut := s.plantOut ++ [⟨BitVec.ofNat 8 r.addr, 1, 0x20, seq, []⟩]
      port := { s.port with
        seqCount := seq + 1, grants := (true :: s.port.grants).take 3
        exchange := some ⟨.poll r.target, r.addr, seq, .running (s.clock + 50)⟩ } }
    let idle := ∀ e ∈ s.queue.entries, e.st ≠ .waiting ∨ s.queue.reserved e.act = true
    (∀ r, s.port.round = some r → s.port.grants.any id = false → exec .slotGrant s = .next (polled r))
    ∧ (∀ (pre post : List Entry) (e : Entry), s.port.round = none ∨ s.port.grants.any id = true →
        s.queue.entries = pre ++ e :: post → s.queue.disciplined →
        (∀ x ∈ pre, x.st ≠ .waiting ∨ s.queue.reserved x.act = true) →
        e.st = .waiting → s.queue.reserved e.act = false → s.unaddressable e.act = false →
        let addr := s.commandAddress e.act
        exec .slotGrant s = .next { s with
          plantOut := s.plantOut ++ [⟨BitVec.ofNat 8 addr, 1, e.act.kind, seq, e.act.payload e.value⟩]
          queue := { s.queue with
            entries := pre ++ { e with st := .issued, addr := some addr, seq := some seq } :: post
            lastIssued := s.queue.lastIssued.set e.act.ix (some e.value) }
          port := { s.port with
            seqCount := seq + 1, grants := (false :: s.port.grants).take 3
            exchange := some ⟨.command e.act, addr, seq, .running (s.clock + 50)⟩ } })
    ∧ (∀ r, s.port.round = some r → s.port.grants.any id = true → idle → s.room.passThrough = [] →
        exec .slotGrant s = .next (polled r))
    ∧ (s.port.round = none → idle → s.room.passThrough = [] → exec .slotGrant s = .next s)

/-- Retransmissions, forwarded frames and unaddressable dampers (R134, R138, R144, R145, R166): a due retransmission goes
before everything and repeats the frame with its sequence; the oldest pass-through frame is sent with source 1 and a
sequence of the part's own where no command is issuable; and a damper command whose address lies outside the field leaves
the queue unsent, its actuator OUT_OF_FIELD with one fault entry where the status changes. The count a frame carries is
the model's reading (log 10). -/
def Obligations.SlotCarriesRetransmissionsAndForwards : Prop :=
  (∀ (s : State) (a : Actuator) (e : Entry) (addr : Nat) (seq : Byte), s.phase ≠ .loading → s.port.exchange = none →
    s.port.retx = some (.command a) → s.queue.inFlight a = some e → e.addr = some addr → e.seq = some seq →
    exec .slotGrant s = .next { s with
      plantOut := s.plantOut ++ [⟨BitVec.ofNat 8 addr, 1, a.kind, seq, a.payload e.value⟩]
      queue := { s.queue with entries := s.queue.entries.map fun w =>
        if w.act = a ∧ w.st ≠ .waiting then { w with retries := w.retries + 1 } else w }
      port := { s.port with
        retx := none, grants := (false :: s.port.grants).take 3
        exchange := some ⟨.command a, addr, seq, .running (s.clock + 50)⟩ } })
  ∧ (∀ (s : State) (slot : Fin 4) (addr : Nat) (seq kind : Byte) (p : List Byte), s.phase ≠ .loading →
    s.port.exchange = none → s.port.retx = some (.forward slot addr seq kind p) →
    exec .slotGrant s = .next { s with
      plantOut := s.plantOut ++ [⟨BitVec.ofNat 8 addr, 1, kind, seq, p⟩]
      port := { s.port with
        retx := none, grants := (false :: s.port.grants).take 3
        exchange := some ⟨.forward slot kind p true, addr, seq, .running (s.clock + 50)⟩ } })
  ∧ (∀ (s : State) (slot : Fin 4) (rest : List (Fin 4)) (r p k q : Byte) (payload : List Byte), s.phase ≠ .loading →
    s.port.exchange = none → s.port.retx = none → s.port.round = none ∨ s.port.grants.any id = true →
    (∀ e ∈ s.queue.entries, e.st ≠ .waiting ∨ s.queue.reserved e.act = true) →
    s.room.passThrough = slot :: rest → s.room.slots.get slot = .pending r p k q (some payload) →
    exec .slotGrant s = .next { s with
      plantOut := s.plantOut ++ [⟨BitVec.ofNat 8 (p.toNat - 64), 1, k, s.port.seqCount, payload⟩]
      room := ⟨s.room.slots.set slot (.pending r p k q none), rest⟩
      port := { s.port with
        seqCount := s.port.seqCount + 1, grants := (false :: s.port.grants).take 3
        exchange := some ⟨.forward slot k payload false, p.toNat - 64, s.port.seqCount, .running (s.clock + 50)⟩ } })
  ∧ ∀ (s : State) (e : Entry) (z : Fin 12), s.phase ≠ .loading → s.port.exchange = none → s.port.retx = none →
    s.port.round = none → s.room.passThrough = [] → s.queue.entries = [e] → e.act = .damper z → e.st = .waiting →
    (s.tables.plant.damperFieldLength ≤ (s.row z).channel ∨ 63 < s.tables.plant.damperBase + (s.row z).channel) →
    exec .slotGrant s = .next { s with
      queue := { s.queue with entries := [], status := s.queue.status.set (Actuator.ix (.damper z)) .outOfField }
      faults := if s.queue.status.get (Actuator.ix (.damper z)) = .outOfField then s.faults
        else pushFault s.faults
          ⟨.addressRange, z + 1, s.uptime, (s.tables.plant.damperBase + (s.row z).channel).toNat⟩ }

/-- A reply window that ends without a reply (R138, R145, R147). A poll raises its target's missed-poll count to at most 3; the
third loses the indoor or the outdoor board, once, with its lockout cause taken (R104, R106, R125), and makes a damper
UNRESPONSIVE; the turn of the round passes, or the round ends (R146, R148); a command has a retransmission due while its retries are below the limit,
and then leaves the queue with its actuator UNRESPONSIVE and one fault entry where the status changes, a valve command with
its failure reported (R87, R93, R116, R122); a forwarded frame is retransmitted once and then ends in NO_ANSWER. That the
turn passes when the exchange ends (log 24), that a due round waits for the one in progress (log 34), the origins (log 12),
the place of the defrost control (log 13) and the mark of a failed valve command (log 31) are the model's readings; the valve
before the fan on entering START_WAIT (log 13), and that the end of a recovery for START_WAIT sends no fan (log 45), are its
choices. -/
def Obligations.UnansweredExchangeEnds : Prop :=
  (∀ (s : State) (t : Fin 14) (addr : Nat) (seq : Byte) (w : Timer) (polled : List Nat), s.phase = .running →
    s.port.exchange = some ⟨.poll t, addr, seq, w⟩ → s.port.round = some ⟨t, addr, polled⟩ →
    ∃ u, exec .replyWindowExpiry s = .next u
      ∧ u.port.exchange = none ∧ u.port.missed.get t = min 3 (s.port.missed.get t + 1)
      ∧ (s.port.missed.get t ≠ 2 → u = { s with port := u.port } ∧ u.port.lostIndoor = s.port.lostIndoor
          ∧ u.port.lostOutdoor = s.port.lostOutdoor)
      ∧ (s.port.missed.get t = 2 → t = 0 → s.seq.recordSafe → s.seq.causes.indoorLost = false →
          s.seq.state ≠ .hardLockout →
          u.port.lostIndoor = true ∧ u.seq.state = .lockout ∧ u.seq.displayed = some .indoorLost
          ∧ u.seq.causes.indoorLost = true ∧ u.meters.get 7 = min 4294967295 (s.meters.get 7 + 1)
          ∧ u.faults = pushFault s.faults ⟨.indoorLost, s.indoorAddress, s.uptime, 0⟩
          ∧ (s.seq.cmdQ > 0 → u.seq.cmdQ = 0 ∧ u.queue.holds .compressor 0 .sequencer))
      ∧ (s.port.missed.get t = 2 → t = 1 → s.seq.recordSafe → s.seq.causes.outdoorLost = false →
          s.seq.state ≠ .hardLockout →
          u.port.lostOutdoor = true ∧ u.seq.state = .lockout ∧ u.seq.displayed = some .outdoorLost
          ∧ u.seq.causes.outdoorLost = true ∧ u.seq.phase = none ∧ u.seq.shadow = none
          ∧ u.meters.get 7 = min 4294967295 (s.meters.get 7 + 1)
          ∧ u.faults = pushFault s.faults ⟨.outdoorLost, s.outdoorAddress, s.uptime, 0⟩
          ∧ (s.seq.cmdQ > 0 → u.seq.cmdQ = 0 ∧ u.queue.holds .compressor 0 .sequencer))
      ∧ s.turnPasses u t addr polled s.port.cache (s.port.missed.set t (min 3 (s.port.missed.get t + 1)))
      ∧ s.sentOnly u [] ∧ u.zones = s.zones ∧ u.tables = s.tables ∧ u.engine = s.engine ∧ u.room = s.room
      ∧ (∀ z : Fin 12, s.port.missed.get t = 2 → t.val = z + 2 →
          u.queue = { s.queue with status := s.queue.status.set (Actuator.ix (.damper z)) .unresponsive }
          ∧ u.seq = s.seq
          ∧ u.faults = (if s.queue.status.get (Actuator.ix (.damper z)) = .unresponsive then s.faults
              else pushFault s.faults ⟨.actuatorUnresponsive, z + 1, s.uptime, 0⟩)))
  ∧ (∀ (s : State) (a : Actuator) (e : Entry) (addr : Nat) (seq : Byte) (w : Timer), s.phase ≠ .stopping →
    s.port.exchange = some ⟨.command a, addr, seq, w⟩ → s.queue.inFlight a = some e →
    ((e.retries : Int) < s.tables.plant.retryLimit →
      exec .replyWindowExpiry s
        = .next { s with port := { s.port with exchange := none, retx := some (.command a) } })
    ∧ (s.tables.plant.retryLimit ≤ (e.retries : Int) → a ≠ .valve →
      exec .replyWindowExpiry s = .next { s with
        port := { s.port with exchange := none }
        queue := { s.queue with
          entries := s.queue.entries.filter fun x => !(x.act = a && x.st ≠ .waiting)
          status := s.queue.status.set a.ix .unresponsive }
        faults := if s.queue.status.get a.ix = .unresponsive then s.faults
          else pushFault s.faults ⟨.actuatorUnresponsive, a.number, s.uptime, e.value⟩ })
    ∧ (s.tables.plant.retryLimit ≤ (e.retries : Int) → a = .valve → s.valveReady → ∀ r, s.seq.awaits r →
      ∃ t, exec .replyWindowExpiry s = .next t
        ∧ s.follows t { s.queue with
            entries := s.queue.entries.filter fun x => !(x.act = a && x.st ≠ .waiting)
            status := s.queue.status.set a.ix .unresponsive } (s.valveLostPlan r)
        ∧ t.faults = (if s.queue.status.get a.ix = .unresponsive then s.faults
            else pushFault s.faults ⟨.actuatorUnresponsive, a.number, s.uptime, e.value⟩)
        ∧ t.port = { s.port with exchange := none } ∧ s.sentOnly t [] ∧ t.zones = s.zones ∧ t.tables = s.tables
        ∧ t.engine = s.engine ∧ t.room = s.room))
  ∧ ∀ (s : State) (slot : Fin 4) (kind : Byte) (p : List Byte) (addr : Nat) (seq : Byte) (w : Timer),
    s.phase ≠ .stopping →
    (s.port.exchange = some ⟨.forward slot kind p false, addr, seq, w⟩ →
      exec .replyWindowExpiry s
        = .next { s with port := { s.port with exchange := none, retx := some (.forward slot addr seq kind p) } })
    ∧ (∀ r x k q b, s.port.exchange = some ⟨.forward slot kind p true, addr, seq, w⟩ →
        s.room.slots.get slot = .pending r x k q b →
        exec .replyWindowExpiry s = .next { s with
          port := { s.port with exchange := none }
          room := ⟨s.room.slots.set slot
            (.ready r x k q none (.running (s.clock + secs s.tables.report.holdoff))), s.room.passThrough⟩ })

/-- An ACCEPT taken for a command clears the refused mark and ends every status but STALLED (R132, R136, R142): a fan or
defrost command completes; a damper, valve or compressor command becomes MOVING with its timeout; a compressor command
with a 0 waiting behind it leaves the queue. In STOPPING the last of the stop's commands to complete ends STOPPING: the
queue is cleared, the tables are loaded again and what R197 keeps is kept. When STOPPING ends (log 26) and that every record
then stands at the reset of its loaded row (log 35) are the model's readings. -/
def Obligations.AcceptIsTaken : Prop :=
  ∀ (s : State) (a : Actuator) (e : Entry) (src seq : Byte) (w : Timer),
    s.port.exchange = some ⟨.command a, src.toNat, seq, w⟩ → s.queue.inFlight a = some e →
    let answered : ActStatus := if s.queue.status.get a.ix = .stalled then .stalled else .ready
    let removed := s.queue.entries.filter fun x => !(x.act = a && x.st ≠ .waiting)
    let moving (due : Nat) := s.queue.entries.map fun x =>
      if x.act = a ∧ x.st ≠ .waiting then { x with st := .moving, timeout := .running due } else x
    let stops := s.queue.entries.any fun x => x.act = .compressor && x.st = .waiting && x.value = 0
    (s.phase ≠ .stopping →
      ∃ t, exec (.accept 1 src seq []) s = .next t
        ∧ t = { s with port := { s.port with exchange := none }, queue := t.queue }
        ∧ t.queue.refused = s.queue.refused.set a.ix false ∧ t.queue.lastIssued = s.queue.lastIssued
        ∧ (a = .fan ∨ a = .defrost → t.queue.entries = removed
            ∧ t.queue.status = s.queue.status.set a.ix .ready
            ∧ t.queue.lastCompleted = s.queue.lastCompleted.set a.ix (some e.value))
        ∧ (¬ (a = .fan ∨ a = .defrost) →
            t.queue.status = s.queue.status.set a.ix answered ∧ t.queue.lastCompleted = s.queue.lastCompleted)
        ∧ (∀ z, a = .damper z → t.queue.entries = moving (s.clock + secs s.tables.plant.travelTimeout))
        ∧ (a = .valve → t.queue.entries = moving (s.clock + 30000))
        ∧ (a = .compressor → stops = true → t.queue.entries = removed)
        ∧ (a = .compressor → stops = false → t.queue.entries = moving (s.clock + secs s.tables.plant.rampTimeout)))
    ∧ (s.phase = .stopping → a = .fan → s.queue.entries = [e] →
      ∃ t, exec (.accept 1 src seq []) s = .next t
        ∧ t.phase = .loading ∧ t.tables = (loadTables s.store).1 ∧ t.queue = Queue.reset
        ∧ (∀ z, t.zone z = ZoneRec.reset (t.row z)) ∧ t.engine = Engine.reset ∧ t.room = RoomPort.reset
        ∧ t.mgmt = Management.reset ∧ t.port = PlantPort.reset ∧ t.economy = .active
        ∧ t.seq.state = (if s.seq.state = .hardLockout then .hardLockout else .idle)
        ∧ t.seq.history = s.seq.history
        ∧ t.seq.minOff = .running (s.resetAt + secs t.tables.plant.minOff)
        ∧ t.seq.equalize = .running (s.resetAt + secs t.tables.plant.equalize)
        ∧ t.meters = s.meters ∧ t.faults = s.faults ∧ t.uptime = s.uptime
        ∧ t.store = { s.store with skipped := (loadTables s.store).2 } ∧ t.roomOut = s.roomOut)

/-- A REFUSE taken for a command removes it, ends every status but STALLED and sets the refused mark, with one
NODE_REFUSED entry where the mark was clear (R137, R142). A refused valve leaves its direction UNKNOWN with no command in
flight (R87): in START_WAIT no test follows (R93), a defrost in VALVE_IN is abandoned and ends by its shadow (R116, R121), a
recovery in VALVE_OUT ends without a start (R122), and in every other state nothing more happens. The origins (log 12),
the place of the defrost control (log 13) and the mark of a failed valve command (log 31) are the model's readings; the valve
before the fan on entering START_WAIT (log 13), and that the end of a recovery for START_WAIT sends no fan (log 45), are its
choices. -/
def Obligations.RefuseIsTaken : Prop :=
  ∀ (s : State) (a : Actuator) (e : Entry) (src seq : Byte) (w : Timer) (reason : List Byte), s.phase ≠ .stopping →
    s.port.exchange = some ⟨.command a, src.toNat, seq, w⟩ → s.queue.inFlight a = some e → reason.length ≤ 1 →
    let refused : Queue := { s.queue with
      entries := s.queue.entries.filter fun x => !(x.act = a && x.st ≠ .waiting)
      status := s.queue.status.set a.ix (if s.queue.status.get a.ix = .stalled then .stalled else .ready)
      refused := s.queue.refused.set a.ix true }
    let faults := if s.queue.refused.get a.ix = true then s.faults
      else pushFault s.faults ⟨.nodeRefused, a.number, s.uptime, e.value⟩
    (a ≠ .valve ∨ s.seq.state = .startWait → exec (.refuse 1 src seq reason) s = .next { s with
      port := { s.port with exchange := none }
      queue := refused
      faults := faults
      seq := if a = .valve then { s.seq with valveDir := none, inFlight := none, valveFailed := true } else s.seq })
    ∧ (a = .valve → s.valveReady → ∀ r, s.seq.awaits r →
      ∃ t, exec (.refuse 1 src seq reason) s = .next t
        ∧ s.follows t refused (s.valveLostPlan r) ∧ t.faults = faults
        ∧ t.port = { s.port with exchange := none } ∧ s.sentOnly t [] ∧ t.zones = s.zones ∧ t.tables = s.tables
        ∧ t.engine = s.engine ∧ t.room = s.room)

/-- The reply to a forwarded frame, of any kind and with its payload as received, makes its slot READY with the discard
timer at the holdoff then in force, and touches nothing else but the exchange (R145, R168). -/
def Obligations.ForwardedReplyIsHeld : Prop :=
  ∀ (s : State) (slot : Fin 4) (kind : Byte) (p : List Byte) (retried : Bool) (w : Timer) (f : Frame)
    (r x k q : Byte) (b : Option (List Byte)), f.dst = 1 →
    s.port.exchange = some ⟨.forward slot kind p retried, f.src.toNat, f.seq, w⟩ →
    s.room.slots.get slot = .pending r x k q b →
    exec (.forwardedReply f) s = .next { s with
      port := { s.port with exchange := none }
      room := ⟨s.room.slots.set slot (.ready r x k q (some (f.kind, f.payload))
        (.running (s.clock + secs s.tables.report.holdoff))), s.room.passThrough⟩ }

/-- A reply to a poll of the indoor board (R104, R106, R142, R147, R148): filed with each field clamped (R155), the statuses
of the fan and of every damper that stands at its address answered, the board no longer lost and its missed polls 0,
INDOOR_LOST ended, and a HIGH float taken as CONDENSATE; the turn of the round passes (R146). With a NORMAL float in RUN a warm coil ends the cold-draft hold and sends the fan to the F of the result in force (R101), and
on the COOL side a coil below the limit makes the coil freeze hold active with its 5 minutes and the compressor at Qmin, one
at or above the limit ends it (R103); in WARMING a warm coil ends recovery in RUN on the HEAT side, which takes the
shadow's result (R95, R96, R123). That the contents are examined after a lost board's cause has ended (log 18), the origins
(log 12), the capacity limit at the end of recovery (log 19), the meters taken at a stop (log 20), the address a damper
stands at (log 21), the turn and the round that waits (logs 24, 34), Qmin sent once under a hold (log 29), the mark of a
failed valve command (log 31), the order at an overrun time of 0 (log 37) and that the reply judges no damper (log 44) are
the model's readings. Its choices are the fan before the valve at an overrun time of 0 (log 13), the board's older entry
replaced (log 16), that no fan is sent where R96 takes the shadow's result (log 41), and whose reply answers which actuator
(log 44). -/
def Obligations.IndoorReplyIsFiled : Prop :=
  ∀ (s : State) (src seq : Byte) (w : Timer) (ret sup coil : Int) (high : Bool) (fan : Byte), s.phase ≠ .stopping →
    s.port.exchange = some ⟨.poll 0, src.toNat, seq, w⟩ → s.seq.recordSafe →
    -32768 ≤ ret → ret ≤ 32767 → -32768 ≤ sup → sup ≤ 32767 → -32768 ≤ coil → coil ≤ 32767 →
    let p := s.tables.plant
    let c := clamp (-400) 850 coil
    let k : Queue := { s.queue with status := s.statusAnswered src.toNat [.fan] }
    let q : Sequencer := { s.seq with indoorCoil := c, condMark := false }
    ∃ t, exec (.indoorReply 1 src seq
        (bytes2 ret ++ bytes2 sup ++ bytes2 coil ++ [if high then 1 else 0, fan])) s = .next t
      ∧ t.port.exchange = none ∧ t.port.lostIndoor = false ∧ t.port.missed.get 0 = 0
      ∧ t.indoorEntry = some ⟨clamp (-400) 850 ret, clamp (-400) 850 sup, c, high, clamp 0 100 fan.toNat⟩
      ∧ t.seq.indoorCoil = c ∧ t.queue.status = k.status ∧ t.seq.causes.indoorLost = false
      ∧ (high = true → s.seq.state ≠ .hardLockout → t.seq.state = .lockout ∧ t.seq.causes.condensate = true)
      ∧ (high = false → (t.seq.causes.condensate = true ↔
          s.seq.causes.condensate = true ∧ s.seq.causes.condTimer.isRunning = true))
      ∧ (high = false → s.seq.state = .run → s.seq.runSide = some .heat →
          (p.coldDraftCoil ≤ c → s.seq.coldDraftHold = true → ∀ r, s.seq.inForce = some r → s.follows t k
            ⟨{ q with coldDraftHold := false, coldDraft := .stopped, cmdF := r.f }, [⟨.fan, r.f, .pass⟩]⟩)
          ∧ (c < p.coldDraftCoil ∨ s.seq.coldDraftHold = false → s.follows t k ⟨q, []⟩))
      ∧ (high = false → s.seq.state = .run → s.seq.runSide = some .cool → s.tables.safe →
          (c < p.coilFreezeLimit → s.seq.coilFreezeHold = false →
            let held : Sequencer := { q with coilFreezeHold := true, coilFreeze := .running (s.clock + 300000) }
            s.follows t k (if p.qmin < s.seq.cmdQ then ⟨{ held with cmdQ := p.qmin }, [⟨.compressor, p.qmin, .sequencer⟩]⟩
              else ⟨held, []⟩))
          ∧ (c < p.coilFreezeLimit → s.seq.coilFreezeHold = true → s.follows t k ⟨q, []⟩)
          ∧ (p.coilFreezeLimit ≤ c → s.follows t k ⟨{ q with coilFreezeHold := false, coilFreeze := .stopped }, []⟩))
      ∧ (high = false → s.seq.phase = some .warming → s.tables.safe → s.minOffSafe → ∀ r, s.seq.shadow = some r →
          (p.coldDraftCoil ≤ c → s.follows t k (t.runPlan { q with
            coldDraftHold := false, coldDraft := .stopped, shadow := none, phase := none, state := .run
            runSide := some .heat } r))
          ∧ (c < p.coldDraftCoil → s.follows t k ⟨q, []⟩))
      ∧ (∀ polled, s.port.round = some ⟨0, src.toNat, polled⟩ → s.turnPasses t 0 src.toNat polled
          (s.filed src.toNat (.indoor ⟨clamp (-400) 850 ret, clamp (-400) 850 sup, c, high, clamp 0 100 fan.toNat⟩))
          (s.port.missed.set 0 0))
      ∧ s.sentOnly t [] ∧ t.zones = s.zones ∧ t.tables = s.tables ∧ t.engine = s.engine ∧ t.room = s.room
      ∧ t.uptime = s.uptime ∧ t.clock = s.clock ∧ t.plantOut = s.plantOut

/-- A reply to a poll of the outdoor board (R104, R106, R140, R141, R142, R148): filed with each field clamped (R155); a
MOVING compressor within 50 of its value and a MOVING valve in its direction complete, and a STALLED one with no command in
flight that meets its last issued value is READY again; the statuses of the defrost control and of every damper that stands
at its address are answered; the board is no longer lost; a fault code is taken as OUTDOOR_FAULT; the turn of the round
passes (R146). The valve's completion sets its direction (R87); in START_WAIT it is the start test
(R93), in VALVE_IN the melt starts or waits in START_IN (R116, R117), in VALVE_OUT the recovery start test is made (R122).
Without a fault code a wanted defrost is entered in RUN once min run has elapsed (R112, R114), and a coil at or above the
defrost end temperature ends a melt as complete (R119, R120); a colder coil, and a reply in any other state, leaves the
sequencer as it was. With OUTDOOR_LOST as the last cause the lockout ends and IDLE takes the newest result (R105, R106). That
the contents are examined after a lost board's cause has ended (log 18), the origins (log 12), the address a damper stands
at and an actuator never commanded (log 21), the turn and the round that waits (logs 24, 34), the mark of a failed valve
command (log 31), the valve's codes (log 36), the order of the events that one reply makes (log 37) and that the reply judges
no damper (log 44) are the model's readings; the order in which the contents are examined (log 18), the board's older entry
replaced (log 16) and whose reply answers which actuator (log 44) are its choices. -/
def Obligations.OutdoorReplyIsFiled : Prop :=
  ∀ (s : State) (src seq : Byte) (w : Timer) (air coil cap : Int) (valve : ValveShown) (frost run : Bool) (code : Byte),
    s.phase ≠ .stopping → s.port.exchange = some ⟨.poll 1, src.toNat, seq, w⟩ → s.seq.recordSafe → s.queue.disciplined →
    -32768 ≤ air → air ≤ 32767 → -32768 ≤ coil → coil ≤ 32767 → 0 ≤ cap → cap ≤ 65535 →
    let p := s.tables.plant
    let c := clamp (-400) 850 coil
    let turned : Prop := ∃ e, s.queue.inFlight .valve = some e ∧ e.st = .moving ∧ valve.code = e.value
    let d : Side := if valve = .heat then .heat else .cool
    let q : Sequencer := { s.seq with faultMark := false }
    let turning : Prop := s.seq.state = .startWait ∨ s.seq.phase = some .valveIn ∨ s.seq.phase = some .valveOut
    let frosted : Prop := p.defrostInterval ≤ s.seq.frostTime ∨ frost = true ∧ p.defrostMinimum ≤ s.seq.frostTime
    let wanted : Prop := s.seq.state = .run ∧ s.seq.runSide = some .heat ∧ s.seq.minRun = .stopped ∧ frosted
    let melted : Prop := s.seq.phase = some .melt ∧ p.defrostEndCoil ≤ c
    ∃ t, exec (.outdoorReply 1 src seq (bytes2 air ++ bytes2 coil ++ bytes2 cap
        ++ [byteOf valve.code, if frost then 1 else 0, code, if run then 1 else 0])) s = .next t
      ∧ t.port.exchange = none ∧ t.port.lostOutdoor = false ∧ t.port.missed.get 1 = 0
      ∧ t.outdoorEntry = some ⟨clamp (-400) 850 air, c, clamp 0 1000 cap, valve, frost, code.toNat, run⟩
      ∧ t.seq.causes.outdoorLost = false
      ∧ (∀ i : Fin 16, i.val ≠ 13 ∧ i.val ≠ 14 →
          t.queue.status.get i = (s.statusAnswered src.toNat [.defrost]).get i)
      ∧ s.statusReturns t .compressor (fun v => v - 50 ≤ clamp 0 1000 cap ∧ clamp 0 1000 cap ≤ v + 50)
      ∧ s.statusReturns t .valve (fun v => valve.code = v)
      ∧ (∀ polled, s.port.round = some ⟨1, src.toNat, polled⟩ → s.turnPasses t 1 src.toNat polled
          (s.filed src.toNat (.outdoor ⟨clamp (-400) 850 air, c, clamp 0 1000 cap, valve, frost, code.toNat, run⟩))
          (s.port.missed.set 1 0))
      ∧ (∀ e, s.queue.inFlight .compressor = some e → e.st = .moving →
          e.value - 50 ≤ clamp 0 1000 cap → clamp 0 1000 cap ≤ e.value + 50 →
          t.queue.inFlight .compressor = none ∧ t.queue.status.get 13 = .ready
            ∧ t.queue.lastCompleted.get 13 = some e.value)
      ∧ (∀ e, s.queue.inFlight .valve = some e → e.st = .moving → valve.code = e.value →
          t.queue.inFlight .valve = none ∧ t.queue.status.get 14 = .ready
            ∧ t.queue.lastCompleted.get 14 = some e.value
            ∧ (¬ turning → s.seq.causes.outdoorLost = false → t.seq.valveDir = some d ∧ t.seq.inFlight = none))
      ∧ (code ≠ 0 → s.seq.state ≠ .hardLockout → s.seq.history.length < 2 →
          t.seq.state = .lockout ∧ t.seq.causes.outdoorFault = true)
      ∧ (turned → turning → code = 0 → c < p.defrostEndCoil → s.tables.safe → s.minOffSafe →
          ∀ r, s.seq.newest = some r → s.yields t (s.valveDonePlan d r))
      ∧ (¬ turned → code = 0 → s.seq.causes.outdoorLost = false → s.tables.safe → s.minOffSafe →
          (wanted → s.yields t (s.defrostPlan q)) ∧ (melted → s.yields t (s.meltedPlan { q with incomplete := 0 }))
          ∧ (¬ wanted → ¬ melted → s.yields t ⟨q, []⟩))
      ∧ (¬ turned → code = 0 → s.seq.causes.outdoorLost = true → (s.seq.causes.remove .outdoorLost).any = false →
          s.tables.safe → s.minOffSafe → ∀ r, s.seq.newest = some r → s.yields t (s.idlePlan { q with
            causes := s.seq.causes.remove .outdoorLost, displayed := none, state := .idle } r))
      ∧ s.sentOnly t [] ∧ t.zones = s.zones ∧ t.tables = s.tables ∧ t.engine = s.engine ∧ t.room = s.room
      ∧ t.uptime = s.uptime ∧ t.plantOut = s.plantOut

/-- A reply to a poll of a damper, where no other zone's damper stands at its address (R128, R139, R142, R148): filed; a
MOVING command at IDLE within 3 of its value completes; MOVING leaves it waiting; anything else makes the damper STALLED,
with one fault entry of the position where the status changes. With no command in flight a JAMMED damper is STALLED (R139);
otherwise every status but STALLED ends, and STALLED too where the damper is IDLE within 3 of its last issued value (R142).
The turn of the round passes, or the round ends and the damper entries not polled in it leave the cache (R146, R148). The
address a damper is judged by and a damper never commanded (log 21), the turn and the round that waits (logs 24, 34) are the
model's readings; that the reply answers no actuator of a board at the same address (log 44) is its choice. -/
def Obligations.DamperReplyIsJudged : Prop :=
  (∀ (s : State) (z : Fin 12) (e : Entry) (src seq pos : Byte) (shown : DamperShown) (w : Timer) (polled : List Nat),
    let target : Fin 14 := ⟨z + 2, by omega⟩
    let a : Actuator := .damper z
    let at_ := clamp 0 100 pos.toNat
    s.port.exchange = some ⟨.poll target, src.toNat, seq, w⟩ → s.port.round = some ⟨target, src.toNat, polled⟩ →
    s.queue.inFlight a = some e → e.addr = some src.toNat → e.st = .moving →
    (∀ y : Fin 12, y ≠ z → s.damperAddress y ≠ src.toNat ∧
      ∀ x, s.queue.inFlight (.damper y) = some x → x.addr ≠ some src.toNat) →
    let removed := s.queue.entries.filter fun x => !(x.act = a && x.st ≠ .waiting)
    ∃ t, exec (.damperReply 1 src seq [pos, byteOf shown.code]) s = .next t
      ∧ t.port.exchange = none ∧ t.damperEntry src.toNat = some ⟨at_, shown⟩
      ∧ (shown = .idle → e.value - 3 ≤ at_ → at_ ≤ e.value + 3 →
          t.queue = { s.queue with
            entries := removed, status := s.queue.status.set a.ix .ready
            lastCompleted := s.queue.lastCompleted.set a.ix (some e.value) } ∧ t.faults = s.faults)
      ∧ (shown = .moving →
          t.queue = { s.queue with
            status := s.queue.status.set a.ix (if s.queue.status.get a.ix = .stalled then .stalled else .ready) }
          ∧ t.faults = s.faults)
      ∧ (shown = .jammed ∨ shown = .idle ∧ (at_ < e.value - 3 ∨ e.value + 3 < at_) →
          t.queue = { s.queue with entries := removed, status := s.queue.status.set a.ix .stalled }
          ∧ t.faults = (if s.queue.status.get a.ix = .stalled then s.faults
              else pushFault s.faults ⟨.actuatorStalled, z + 1, s.uptime, at_⟩))
      ∧ s.turnPasses t target src.toNat polled (s.filed src.toNat (.damper ⟨at_, shown⟩)) (s.port.missed.set target 0)
      ∧ t.seq = s.seq ∧ t.zones = s.zones ∧ t.tables = s.tables ∧ t.engine = s.engine ∧ t.room = s.room
      ∧ t.meters = s.meters ∧ t.roomOut = s.roomOut ∧ t.plantOut = s.plantOut)
  ∧ ∀ (s : State) (z : Fin 12) (src seq pos : Byte) (shown : DamperShown) (w : Timer) (polled : List Nat),
    let target : Fin 14 := ⟨z + 2, by omega⟩
    let a : Actuator := .damper z
    let at_ := clamp 0 100 pos.toNat
    s.port.exchange = some ⟨.poll target, src.toNat, seq, w⟩ → s.port.round = some ⟨target, src.toNat, polled⟩ →
    s.queue.inFlight a = none → s.damperAddress z = src.toNat →
    (∀ y : Fin 12, y ≠ z → s.damperAddress y ≠ src.toNat ∧
      ∀ x, s.queue.inFlight (.damper y) = some x → x.addr ≠ some src.toNat) →
    let met : Prop := shown = .idle ∧ ∃ v, s.queue.lastIssued.get a.ix = some v ∧ v - 3 ≤ at_ ∧ at_ ≤ v + 3
    ∃ t, exec (.damperReply 1 src seq [pos, byteOf shown.code]) s = .next t
      ∧ t.port.exchange = none ∧ t.damperEntry src.toNat = some ⟨at_, shown⟩
      ∧ (shown = .jammed →
          t.queue = { s.queue with status := s.queue.status.set a.ix .stalled }
          ∧ t.faults = (if s.queue.status.get a.ix = .stalled then s.faults
              else pushFault s.faults ⟨.actuatorStalled, z + 1, s.uptime, at_⟩))
      ∧ (shown ≠ .jammed → t.faults = s.faults
          ∧ (s.queue.status.get a.ix ≠ .stalled ∨ met →
              t.queue = { s.queue with status := s.queue.status.set a.ix .ready })
          ∧ (s.queue.status.get a.ix = .stalled → ¬ met → t.queue = s.queue))
      ∧ s.turnPasses t target src.toNat polled (s.filed src.toNat (.damper ⟨at_, shown⟩)) (s.port.missed.set target 0)
      ∧ t.seq = s.seq ∧ t.zones = s.zones ∧ t.tables = s.tables ∧ t.engine = s.engine ∧ t.room = s.room
      ∧ t.meters = s.meters ∧ t.roomOut = s.roomOut ∧ t.plantOut = s.plantOut

/-- The travel, ramp and valve timeouts of a MOVING command (R139, R140, R141): the command leaves the queue, its actuator
is STALLED, and one fault entry of the latest reply's position, capacity or valve is recorded where the status changes;
the valve's failure is reported: outside VALVE_IN and VALVE_OUT it only leaves the direction UNKNOWN (R87), in VALVE_IN it
abandons the defrost (R116, R121) and in VALVE_OUT it ends recovery without a start (R122). The origins (log 12), the
place of the defrost control (log 13), the mark of a failed valve command (log 31) and the valve's codes (log 36) are the
model's readings; the valve before the fan on entering START_WAIT (log 13), and that the end of a recovery for START_WAIT
sends no fan (log 45), are its choices. -/
def Obligations.MovementTimesOut : Prop :=
  ∀ (s : State) (a : Actuator) (e : Entry) (due : Nat), s.phase ≠ .stopping → s.queue.inFlight a = some e →
    e.st = .moving → e.timeout = .running due →
    let stalled (detail : Int) : State := { s with
      queue := { s.queue with
        entries := s.queue.entries.filter fun x => !(x.act = a && x.st ≠ .waiting)
        status := s.queue.status.set a.ix .stalled }
      faults := if s.queue.status.get a.ix = .stalled then s.faults
        else pushFault s.faults ⟨.actuatorStalled, a.number, s.uptime, detail⟩ }
    (∀ z : Fin 12, a = .damper z → exec (.travelTimeout (z + 1)) s = .next (stalled (s.cachedPosition (e.addr.getD 0))))
    ∧ (a = .compressor → ∀ d, s.outdoorEntry = some d → exec .rampTimeout s = .next (stalled d.actualCapacity))
    ∧ (a = .valve → s.seq.state ≠ .defrost → s.seq.state ≠ .recovery → ∀ d, s.outdoorEntry = some d →
        exec .valveTimeout s = .next { stalled d.valve.code with
          seq := { s.seq with valveDir := none, inFlight := none, valveFailed := true } })
    ∧ (a = .valve → s.valveReady → ∀ r, s.seq.awaits r → ∀ d, s.outdoorEntry = some d →
        ∃ t, exec .valveTimeout s = .next t
          ∧ s.follows t (stalled d.valve.code).queue (s.valveLostPlan r) ∧ t.faults = (stalled d.valve.code).faults
          ∧ t.port = s.port ∧ s.sentOnly t [] ∧ t.zones = s.zones ∧ t.tables = s.tables ∧ t.engine = s.engine
          ∧ t.room = s.room)

/-! Reporting, rounds and held replies. -/

/-- The timers of the two buses: a poll round that is due begins with the indoor board or waits for the round in progress
(R146); a held outcome whose discard timer expires is discarded and counted on meter 10 (R169); the period timer sends one
broadcast and starts again (R186); the holdoff timer with pending set sends one broadcast and starts again, and otherwise
stops (R187). The count a frame carries (log 10), that the round timer stands stopped while a due round waits (log 34) and
that the missed count starts from 0 at a changed address (log 24) are the model's readings; that a broadcast carries the own
address as table 6 holds it, at once after its write (log 43), is its choice. -/
def Obligations.BusTimers : Prop :=
  (∀ s : State, s.port.roundTimer.isRunning = true → s.economy = .active →
    (s.port.round.isSome = true →
      exec .pollRoundDue s = .next { s with port := { s.port with roundTimer := .stopped, roundWaiting := true } })
    ∧ (s.port.round = none →
      exec .pollRoundDue s = .next { s with port := { s.port with
        round := some ⟨0, s.indoorAddress, []⟩, roundWaiting := false
        roundTimer := .running (s.clock + secs s.tables.plant.pollInterval)
        missed := if s.port.lastAddr.get 0 = some s.indoorAddress then s.port.missed else s.port.missed.set 0 0
        lastAddr := s.port.lastAddr.set 0 (some s.indoorAddress) } }))
  ∧ (∀ (s : State) (i : Fin 4) (r p k q : Byte) (o : Option (Byte × List Byte)) (t : Timer),
    s.room.slots.get i = .ready r p k q o t →
    exec (.discardTimerExpiry i) s
      = .next { s.metered 10 with room := ⟨s.room.slots.set i .free, s.room.passThrough⟩ })
  ∧ (∀ s : State,
    let sent : State := { s with
      roomOut := s.roomOut ++ [⟨127, s.ownAddress, 0x0F, s.mgmt.count, s.broadcastPayload⟩]
      mgmt := { s.mgmt with count := s.mgmt.count + 1 } }
    s.broadcastPayload.length = 42
    ∧ (s.mgmt.period.isRunning = true → exec .periodTimerExpiry s = .next { sent with
        mgmt := { sent.mgmt with period := .running (s.clock + secs s.tables.report.period) } })
    ∧ (s.mgmt.holdoff.isRunning = true → s.mgmt.pending = true → exec .holdoffTimerExpiry s = .next { sent with
        mgmt := { sent.mgmt with
          pending := false, holdoff := .running (s.clock + secs s.tables.report.holdoff) } })
    ∧ (s.mgmt.holdoff.isRunning = true → s.mgmt.pending = false → exec .holdoffTimerExpiry s
        = .next { s with mgmt := { s.mgmt with holdoff := .stopped } }))

/-! What every step keeps. -/

/-- The part after reset meets every invariant below. The blank store, the pin and the coil temperature of this state are
the model's choices (logs 3, 4, 5). -/
def Obligations.ResetIsSafe : Prop :=
  State.reset.storeSafe ∧ State.reset.tables.safe ∧ State.reset.callsSafe ∧ State.reset.queue.disciplined
    ∧ State.reset.seq.recordSafe ∧ State.reset.minOffSafe ∧ State.reset.countsSafe
    ∧ State.reset.cacheSafe

/-- Every step keeps the store's canonical form, a meter write in progress at no more than meters 0 to 7, and the meters taken
for the meter region with a save alone (R161, R192, R193). That a count may fall before or after the moment the region's
write begins is the model's reading (log 11). -/
def Obligations.StoreStaysSafe : Prop :=
  ∀ s t : State, s.storeSafe → step s = .next t → t.storeSafe

/-- Every step keeps every field within its range, the setpoints 20 apart and the relief list without repeats (R2, R3, R72,
R162, R171, R185, R191), and with them the calls as R10 and R22 promise: no call without a reading, a HEAT call at least 1
below its setpoint, a COOL call at least 1 above it, no demand without its call. -/
def Obligations.TablesAndCallsStaySafe : Prop :=
  ∀ s t : State, s.tables.safe → s.callsSafe → step s = .next t → t.tables.safe ∧ t.callsSafe

/-- Every step keeps at most one WAITING command and at most one command in flight for each actuator (R130). -/
def Obligations.QueueStaysDisciplined : Prop :=
  ∀ s t : State, s.queue.disciplined → step s = .next t → t.queue.disciplined

/-- Every step keeps the sequencer's record of a piece: run side, causes, displayed cause, phase, shadow and holds go with the
plant state (R85, R90, R97, R101, R113). -/
def Obligations.SequencerStaysOfAPiece : Prop :=
  ∀ s t : State, s.seq.recordSafe → step s = .next t → t.seq.recordSafe

/-- Min off (R89): no step starts the compressor while the min off timer runs, but the timer's own expiry; and outside
STOPPING the compressor is commanded above 0 in RUN, MELT and WARMING, where the timer does not run, and to 0 in every other
state (R86, R113). -/
def Obligations.NoStartWithinMinOff : Prop :=
  ∀ s t : State, s.tables.safe → s.seq.recordSafe → s.minOffSafe → step s = .next t →
    t.minOffSafe
    ∧ (s.seq.cmdQ = 0 → t.seq.cmdQ ≠ 0 → s.seq.minOff = .stopped ∨ s.pending.head? = some .minOffExpiry)

/-- Every step keeps every count where it stops, and every entry of the poll cache within the ranges of its fields (R148,
R155). -/
def Obligations.CountsStaySafe : Prop :=
  (∀ s t : State, s.countsSafe → step s = .next t → t.countsSafe)
    ∧ ∀ s t : State, s.cacheSafe → step s = .next t → t.cacheSafe
end

