-- ==== Sys2Proof/Laws/State.lean ====
section
/-! SUPPORT. One lemma per field per named update of the state: what the update leaves and what it writes, so that no proof
unfolds a record update. -/

namespace Sys2Proof.Machine

variable (s : State)

@[simp] theorem State.meters8_length : s.meters8.length = 8 := by
  rw [State.meters8, List.length_take, s.meters.len]; rfl

/-- A count leaves what the meter region of a save holds, or takes the values before it, during a save that has none. -/
theorem State.regionAtCount_cases (stored : Bool) :
    s.regionAtCount stored = s.region ∨
      (s.store.saving = .save ∧ s.region = none ∧ s.regionAtCount stored = some s.meters8) := by
  unfold State.regionAtCount
  split
  · next h => exact .inr ⟨h.2.1, h.2.2.1, rfl⟩
  · exact .inl rfl

/-- A count of meters 8..22 does not touch what a save stores (R192, R200). -/
@[simp] theorem State.regionAtCount_unstored : s.regionAtCount false = s.region := if_neg (fun h => nomatch h.1)

@[simp] theorem State.setSeq_phase (f : Sequencer → Sequencer) : (s.setSeq f).phase = s.phase := rfl
@[simp] theorem State.setSeq_clock (f : Sequencer → Sequencer) : (s.setSeq f).clock = s.clock := rfl
@[simp] theorem State.setSeq_resetAt (f : Sequencer → Sequencer) : (s.setSeq f).resetAt = s.resetAt := rfl
@[simp] theorem State.setSeq_uptime (f : Sequencer → Sequencer) : (s.setSeq f).uptime = s.uptime := rfl
@[simp] theorem State.setSeq_tables (f : Sequencer → Sequencer) : (s.setSeq f).tables = s.tables := rfl
@[simp] theorem State.setSeq_zones (f : Sequencer → Sequencer) : (s.setSeq f).zones = s.zones := rfl
@[simp] theorem State.setSeq_economy (f : Sequencer → Sequencer) : (s.setSeq f).economy = s.economy := rfl
@[simp] theorem State.setSeq_quietTimer (f : Sequencer → Sequencer) : (s.setSeq f).quietTimer = s.quietTimer := rfl
@[simp] theorem State.setSeq_engine (f : Sequencer → Sequencer) : (s.setSeq f).engine = s.engine := rfl
@[simp] theorem State.setSeq_seq (f : Sequencer → Sequencer) : (s.setSeq f).seq = f s.seq := rfl
@[simp] theorem State.setSeq_queue (f : Sequencer → Sequencer) : (s.setSeq f).queue = s.queue := rfl
@[simp] theorem State.setSeq_port (f : Sequencer → Sequencer) : (s.setSeq f).port = s.port := rfl
@[simp] theorem State.setSeq_room (f : Sequencer → Sequencer) : (s.setSeq f).room = s.room := rfl
@[simp] theorem State.setSeq_mgmt (f : Sequencer → Sequencer) : (s.setSeq f).mgmt = s.mgmt := rfl
@[simp] theorem State.setSeq_store (f : Sequencer → Sequencer) : (s.setSeq f).store = s.store := rfl
@[simp] theorem State.setSeq_region (f : Sequencer → Sequencer) : (s.setSeq f).region = s.region := rfl
@[simp] theorem State.setSeq_meters (f : Sequencer → Sequencer) : (s.setSeq f).meters = s.meters := rfl
@[simp] theorem State.setSeq_faults (f : Sequencer → Sequencer) : (s.setSeq f).faults = s.faults := rfl
@[simp] theorem State.setSeq_roomOut (f : Sequencer → Sequencer) : (s.setSeq f).roomOut = s.roomOut := rfl
@[simp] theorem State.setSeq_plantOut (f : Sequencer → Sequencer) : (s.setSeq f).plantOut = s.plantOut := rfl
@[simp] theorem State.setSeq_pending (f : Sequencer → Sequencer) : (s.setSeq f).pending = s.pending := rfl

@[simp] theorem State.setQueue_phase (f : Queue → Queue) : (s.setQueue f).phase = s.phase := rfl
@[simp] theorem State.setQueue_clock (f : Queue → Queue) : (s.setQueue f).clock = s.clock := rfl
@[simp] theorem State.setQueue_resetAt (f : Queue → Queue) : (s.setQueue f).resetAt = s.resetAt := rfl
@[simp] theorem State.setQueue_uptime (f : Queue → Queue) : (s.setQueue f).uptime = s.uptime := rfl
@[simp] theorem State.setQueue_tables (f : Queue → Queue) : (s.setQueue f).tables = s.tables := rfl
@[simp] theorem State.setQueue_zones (f : Queue → Queue) : (s.setQueue f).zones = s.zones := rfl
@[simp] theorem State.setQueue_economy (f : Queue → Queue) : (s.setQueue f).economy = s.economy := rfl
@[simp] theorem State.setQueue_quietTimer (f : Queue → Queue) : (s.setQueue f).quietTimer = s.quietTimer := rfl
@[simp] theorem State.setQueue_engine (f : Queue → Queue) : (s.setQueue f).engine = s.engine := rfl
@[simp] theorem State.setQueue_seq (f : Queue → Queue) : (s.setQueue f).seq = s.seq := rfl
@[simp] theorem State.setQueue_queue (f : Queue → Queue) : (s.setQueue f).queue = f s.queue := rfl
@[simp] theorem State.setQueue_port (f : Queue → Queue) : (s.setQueue f).port = s.port := rfl
@[simp] theorem State.setQueue_room (f : Queue → Queue) : (s.setQueue f).room = s.room := rfl
@[simp] theorem State.setQueue_mgmt (f : Queue → Queue) : (s.setQueue f).mgmt = s.mgmt := rfl
@[simp] theorem State.setQueue_store (f : Queue → Queue) : (s.setQueue f).store = s.store := rfl
@[simp] theorem State.setQueue_region (f : Queue → Queue) : (s.setQueue f).region = s.region := rfl
@[simp] theorem State.setQueue_meters (f : Queue → Queue) : (s.setQueue f).meters = s.meters := rfl
@[simp] theorem State.setQueue_faults (f : Queue → Queue) : (s.setQueue f).faults = s.faults := rfl
@[simp] theorem State.setQueue_roomOut (f : Queue → Queue) : (s.setQueue f).roomOut = s.roomOut := rfl
@[simp] theorem State.setQueue_plantOut (f : Queue → Queue) : (s.setQueue f).plantOut = s.plantOut := rfl
@[simp] theorem State.setQueue_pending (f : Queue → Queue) : (s.setQueue f).pending = s.pending := rfl

@[simp] theorem State.setPort_phase (f : PlantPort → PlantPort) : (s.setPort f).phase = s.phase := rfl
@[simp] theorem State.setPort_clock (f : PlantPort → PlantPort) : (s.setPort f).clock = s.clock := rfl
@[simp] theorem State.setPort_resetAt (f : PlantPort → PlantPort) : (s.setPort f).resetAt = s.resetAt := rfl
@[simp] theorem State.setPort_uptime (f : PlantPort → PlantPort) : (s.setPort f).uptime = s.uptime := rfl
@[simp] theorem State.setPort_tables (f : PlantPort → PlantPort) : (s.setPort f).tables = s.tables := rfl
@[simp] theorem State.setPort_zones (f : PlantPort → PlantPort) : (s.setPort f).zones = s.zones := rfl
@[simp] theorem State.setPort_economy (f : PlantPort → PlantPort) : (s.setPort f).economy = s.economy := rfl
@[simp] theorem State.setPort_quietTimer (f : PlantPort → PlantPort) : (s.setPort f).quietTimer = s.quietTimer := rfl
@[simp] theorem State.setPort_engine (f : PlantPort → PlantPort) : (s.setPort f).engine = s.engine := rfl
@[simp] theorem State.setPort_seq (f : PlantPort → PlantPort) : (s.setPort f).seq = s.seq := rfl
@[simp] theorem State.setPort_queue (f : PlantPort → PlantPort) : (s.setPort f).queue = s.queue := rfl
@[simp] theorem State.setPort_port (f : PlantPort → PlantPort) : (s.setPort f).port = f s.port := rfl
@[simp] theorem State.setPort_room (f : PlantPort → PlantPort) : (s.setPort f).room = s.room := rfl
@[simp] theorem State.setPort_mgmt (f : PlantPort → PlantPort) : (s.setPort f).mgmt = s.mgmt := rfl
@[simp] theorem State.setPort_store (f : PlantPort → PlantPort) : (s.setPort f).store = s.store := rfl
@[simp] theorem State.setPort_region (f : PlantPort → PlantPort) : (s.setPort f).region = s.region := rfl
@[simp] theorem State.setPort_meters (f : PlantPort → PlantPort) : (s.setPort f).meters = s.meters := rfl
@[simp] theorem State.setPort_faults (f : PlantPort → PlantPort) : (s.setPort f).faults = s.faults := rfl
@[simp] theorem State.setPort_roomOut (f : PlantPort → PlantPort) : (s.setPort f).roomOut = s.roomOut := rfl
@[simp] theorem State.setPort_plantOut (f : PlantPort → PlantPort) : (s.setPort f).plantOut = s.plantOut := rfl
@[simp] theorem State.setPort_pending (f : PlantPort → PlantPort) : (s.setPort f).pending = s.pending := rfl

@[simp] theorem State.setMgmt_phase (f : Management → Management) : (s.setMgmt f).phase = s.phase := rfl
@[simp] theorem State.setMgmt_clock (f : Management → Management) : (s.setMgmt f).clock = s.clock := rfl
@[simp] theorem State.setMgmt_resetAt (f : Management → Management) : (s.setMgmt f).resetAt = s.resetAt := rfl
@[simp] theorem State.setMgmt_uptime (f : Management → Management) : (s.setMgmt f).uptime = s.uptime := rfl
@[simp] theorem State.setMgmt_tables (f : Management → Management) : (s.setMgmt f).tables = s.tables := rfl
@[simp] theorem State.setMgmt_zones (f : Management → Management) : (s.setMgmt f).zones = s.zones := rfl
@[simp] theorem State.setMgmt_economy (f : Management → Management) : (s.setMgmt f).economy = s.economy := rfl
@[simp] theorem State.setMgmt_quietTimer (f : Management → Management) :
    (s.setMgmt f).quietTimer = s.quietTimer := rfl
@[simp] theorem State.setMgmt_engine (f : Management → Management) : (s.setMgmt f).engine = s.engine := rfl
@[simp] theorem State.setMgmt_seq (f : Management → Management) : (s.setMgmt f).seq = s.seq := rfl
@[simp] theorem State.setMgmt_queue (f : Management → Management) : (s.setMgmt f).queue = s.queue := rfl
@[simp] theorem State.setMgmt_port (f : Management → Management) : (s.setMgmt f).port = s.port := rfl
@[simp] theorem State.setMgmt_room (f : Management → Management) : (s.setMgmt f).room = s.room := rfl
@[simp] theorem State.setMgmt_mgmt (f : Management → Management) : (s.setMgmt f).mgmt = f s.mgmt := rfl
@[simp] theorem State.setMgmt_store (f : Management → Management) : (s.setMgmt f).store = s.store := rfl
@[simp] theorem State.setMgmt_region (f : Management → Management) : (s.setMgmt f).region = s.region := rfl
@[simp] theorem State.setMgmt_meters (f : Management → Management) : (s.setMgmt f).meters = s.meters := rfl
@[simp] theorem State.setMgmt_faults (f : Management → Management) : (s.setMgmt f).faults = s.faults := rfl
@[simp] theorem State.setMgmt_roomOut (f : Management → Management) : (s.setMgmt f).roomOut = s.roomOut := rfl
@[simp] theorem State.setMgmt_plantOut (f : Management → Management) : (s.setMgmt f).plantOut = s.plantOut := rfl
@[simp] theorem State.setMgmt_pending (f : Management → Management) : (s.setMgmt f).pending = s.pending := rfl

@[simp] theorem State.setZone_phase (z : Fin 12) (f : ZoneRec → ZoneRec) : (s.setZone z f).phase = s.phase := rfl
@[simp] theorem State.setZone_clock (z : Fin 12) (f : ZoneRec → ZoneRec) : (s.setZone z f).clock = s.clock := rfl
@[simp] theorem State.setZone_resetAt (z : Fin 12) (f : ZoneRec → ZoneRec) :
    (s.setZone z f).resetAt = s.resetAt := rfl
@[simp] theorem State.setZone_uptime (z : Fin 12) (f : ZoneRec → ZoneRec) : (s.setZone z f).uptime = s.uptime := rfl
@[simp] theorem State.setZone_tables (z : Fin 12) (f : ZoneRec → ZoneRec) : (s.setZone z f).tables = s.tables := rfl
@[simp] theorem State.setZone_zones (z : Fin 12) (f : ZoneRec → ZoneRec) :
    (s.setZone z f).zones = s.zones.modify z f := rfl
@[simp] theorem State.setZone_economy (z : Fin 12) (f : ZoneRec → ZoneRec) :
    (s.setZone z f).economy = s.economy := rfl
@[simp] theorem State.setZone_quietTimer (z : Fin 12) (f : ZoneRec → ZoneRec) :
    (s.setZone z f).quietTimer = s.quietTimer := rfl
@[simp] theorem State.setZone_engine (z : Fin 12) (f : ZoneRec → ZoneRec) : (s.setZone z f).engine = s.engine := rfl
@[simp] theorem State.setZone_seq (z : Fin 12) (f : ZoneRec → ZoneRec) : (s.setZone z f).seq = s.seq := rfl
@[simp] theorem State.setZone_queue (z : Fin 12) (f : ZoneRec → ZoneRec) : (s.setZone z f).queue = s.queue := rfl
@[simp] theorem State.setZone_port (z : Fin 12) (f : ZoneRec → ZoneRec) : (s.setZone z f).port = s.port := rfl
@[simp] theorem State.setZone_room (z : Fin 12) (f : ZoneRec → ZoneRec) : (s.setZone z f).room = s.room := rfl
@[simp] theorem State.setZone_mgmt (z : Fin 12) (f : ZoneRec → ZoneRec) : (s.setZone z f).mgmt = s.mgmt := rfl
@[simp] theorem State.setZone_store (z : Fin 12) (f : ZoneRec → ZoneRec) : (s.setZone z f).store = s.store := rfl
@[simp] theorem State.setZone_region (z : Fin 12) (f : ZoneRec → ZoneRec) : (s.setZone z f).region = s.region := rfl
@[simp] theorem State.setZone_meters (z : Fin 12) (f : ZoneRec → ZoneRec) : (s.setZone z f).meters = s.meters := rfl
@[simp] theorem State.setZone_faults (z : Fin 12) (f : ZoneRec → ZoneRec) : (s.setZone z f).faults = s.faults := rfl
@[simp] theorem State.setZone_roomOut (z : Fin 12) (f : ZoneRec → ZoneRec) :
    (s.setZone z f).roomOut = s.roomOut := rfl
@[simp] theorem State.setZone_plantOut (z : Fin 12) (f : ZoneRec → ZoneRec) :
    (s.setZone z f).plantOut = s.plantOut := rfl
@[simp] theorem State.setZone_pending (z : Fin 12) (f : ZoneRec → ZoneRec) :
    (s.setZone z f).pending = s.pending := rfl

@[simp] theorem State.setRow_phase (z : Fin 12) (r : ZoneRow) : (s.setRow z r).phase = s.phase := rfl
@[simp] theorem State.setRow_clock (z : Fin 12) (r : ZoneRow) : (s.setRow z r).clock = s.clock := rfl
@[simp] theorem State.setRow_resetAt (z : Fin 12) (r : ZoneRow) : (s.setRow z r).resetAt = s.resetAt := rfl
@[simp] theorem State.setRow_uptime (z : Fin 12) (r : ZoneRow) : (s.setRow z r).uptime = s.uptime := rfl
@[simp] theorem State.setRow_tables (z : Fin 12) (r : ZoneRow) :
    (s.setRow z r).tables = { s.tables with zone := s.tables.zone.set z r } := rfl
@[simp] theorem State.setRow_zones (z : Fin 12) (r : ZoneRow) : (s.setRow z r).zones = s.zones := rfl
@[simp] theorem State.setRow_economy (z : Fin 12) (r : ZoneRow) : (s.setRow z r).economy = s.economy := rfl
@[simp] theorem State.setRow_quietTimer (z : Fin 12) (r : ZoneRow) : (s.setRow z r).quietTimer = s.quietTimer := rfl
@[simp] theorem State.setRow_engine (z : Fin 12) (r : ZoneRow) : (s.setRow z r).engine = s.engine := rfl
@[simp] theorem State.setRow_seq (z : Fin 12) (r : ZoneRow) : (s.setRow z r).seq = s.seq := rfl
@[simp] theorem State.setRow_queue (z : Fin 12) (r : ZoneRow) : (s.setRow z r).queue = s.queue := rfl
@[simp] theorem State.setRow_port (z : Fin 12) (r : ZoneRow) : (s.setRow z r).port = s.port := rfl
@[simp] theorem State.setRow_room (z : Fin 12) (r : ZoneRow) : (s.setRow z r).room = s.room := rfl
@[simp] theorem State.setRow_mgmt (z : Fin 12) (r : ZoneRow) : (s.setRow z r).mgmt = s.mgmt := rfl
@[simp] theorem State.setRow_store (z : Fin 12) (r : ZoneRow) : (s.setRow z r).store = s.store := rfl
@[simp] theorem State.setRow_region (z : Fin 12) (r : ZoneRow) : (s.setRow z r).region = s.region := rfl
@[simp] theorem State.setRow_meters (z : Fin 12) (r : ZoneRow) : (s.setRow z r).meters = s.meters := rfl
@[simp] theorem State.setRow_faults (z : Fin 12) (r : ZoneRow) : (s.setRow z r).faults = s.faults := rfl
@[simp] theorem State.setRow_roomOut (z : Fin 12) (r : ZoneRow) : (s.setRow z r).roomOut = s.roomOut := rfl
@[simp] theorem State.setRow_plantOut (z : Fin 12) (r : ZoneRow) : (s.setRow z r).plantOut = s.plantOut := rfl
@[simp] theorem State.setRow_pending (z : Fin 12) (r : ZoneRow) : (s.setRow z r).pending = s.pending := rfl

@[simp] theorem State.setSlot_phase (i : Fin 4) (x : Slot) : (s.setSlot i x).phase = s.phase := rfl
@[simp] theorem State.setSlot_clock (i : Fin 4) (x : Slot) : (s.setSlot i x).clock = s.clock := rfl
@[simp] theorem State.setSlot_resetAt (i : Fin 4) (x : Slot) : (s.setSlot i x).resetAt = s.resetAt := rfl
@[simp] theorem State.setSlot_uptime (i : Fin 4) (x : Slot) : (s.setSlot i x).uptime = s.uptime := rfl
@[simp] theorem State.setSlot_tables (i : Fin 4) (x : Slot) : (s.setSlot i x).tables = s.tables := rfl
@[simp] theorem State.setSlot_zones (i : Fin 4) (x : Slot) : (s.setSlot i x).zones = s.zones := rfl
@[simp] theorem State.setSlot_economy (i : Fin 4) (x : Slot) : (s.setSlot i x).economy = s.economy := rfl
@[simp] theorem State.setSlot_quietTimer (i : Fin 4) (x : Slot) : (s.setSlot i x).quietTimer = s.quietTimer := rfl
@[simp] theorem State.setSlot_engine (i : Fin 4) (x : Slot) : (s.setSlot i x).engine = s.engine := rfl
@[simp] theorem State.setSlot_seq (i : Fin 4) (x : Slot) : (s.setSlot i x).seq = s.seq := rfl
@[simp] theorem State.setSlot_queue (i : Fin 4) (x : Slot) : (s.setSlot i x).queue = s.queue := rfl
@[simp] theorem State.setSlot_port (i : Fin 4) (x : Slot) : (s.setSlot i x).port = s.port := rfl
@[simp] theorem State.setSlot_room (i : Fin 4) (x : Slot) :
    (s.setSlot i x).room = { s.room with slots := s.room.slots.set i x } := rfl
@[simp] theorem State.setSlot_mgmt (i : Fin 4) (x : Slot) : (s.setSlot i x).mgmt = s.mgmt := rfl
@[simp] theorem State.setSlot_store (i : Fin 4) (x : Slot) : (s.setSlot i x).store = s.store := rfl
@[simp] theorem State.setSlot_region (i : Fin 4) (x : Slot) : (s.setSlot i x).region = s.region := rfl
@[simp] theorem State.setSlot_meters (i : Fin 4) (x : Slot) : (s.setSlot i x).meters = s.meters := rfl
@[simp] theorem State.setSlot_faults (i : Fin 4) (x : Slot) : (s.setSlot i x).faults = s.faults := rfl
@[simp] theorem State.setSlot_roomOut (i : Fin 4) (x : Slot) : (s.setSlot i x).roomOut = s.roomOut := rfl
@[simp] theorem State.setSlot_plantOut (i : Fin 4) (x : Slot) : (s.setSlot i x).plantOut = s.plantOut := rfl
@[simp] theorem State.setSlot_pending (i : Fin 4) (x : Slot) : (s.setSlot i x).pending = s.pending := rfl

@[simp] theorem State.enqueue_phase (a : Actuator) (v : Int) (o : Origin) : (s.enqueue a v o).phase = s.phase := rfl
@[simp] theorem State.enqueue_clock (a : Actuator) (v : Int) (o : Origin) : (s.enqueue a v o).clock = s.clock := rfl
@[simp] theorem State.enqueue_resetAt (a : Actuator) (v : Int) (o : Origin) :
    (s.enqueue a v o).resetAt = s.resetAt := rfl
@[simp] theorem State.enqueue_uptime (a : Actuator) (v : Int) (o : Origin) :
    (s.enqueue a v o).uptime = s.uptime := rfl
@[simp] theorem State.enqueue_tables (a : Actuator) (v : Int) (o : Origin) :
    (s.enqueue a v o).tables = s.tables := rfl
@[simp] theorem State.enqueue_zones (a : Actuator) (v : Int) (o : Origin) : (s.enqueue a v o).zones = s.zones := rfl
@[simp] theorem State.enqueue_economy (a : Actuator) (v : Int) (o : Origin) :
    (s.enqueue a v o).economy = s.economy := rfl
@[simp] theorem State.enqueue_quietTimer (a : Actuator) (v : Int) (o : Origin) :
    (s.enqueue a v o).quietTimer = s.quietTimer := rfl
@[simp] theorem State.enqueue_engine (a : Actuator) (v : Int) (o : Origin) :
    (s.enqueue a v o).engine = s.engine := rfl
@[simp] theorem State.enqueue_seq (a : Actuator) (v : Int) (o : Origin) : (s.enqueue a v o).seq = s.seq := rfl
@[simp] theorem State.enqueue_queue (a : Actuator) (v : Int) (o : Origin) :
    (s.enqueue a v o).queue = s.queue.enqueue a v o := rfl
@[simp] theorem State.enqueue_port (a : Actuator) (v : Int) (o : Origin) : (s.enqueue a v o).port = s.port := rfl
@[simp] theorem State.enqueue_room (a : Actuator) (v : Int) (o : Origin) : (s.enqueue a v o).room = s.room := rfl
@[simp] theorem State.enqueue_mgmt (a : Actuator) (v : Int) (o : Origin) : (s.enqueue a v o).mgmt = s.mgmt := rfl
@[simp] theorem State.enqueue_store (a : Actuator) (v : Int) (o : Origin) : (s.enqueue a v o).store = s.store := rfl
@[simp] theorem State.enqueue_region (a : Actuator) (v : Int) (o : Origin) : (s.enqueue a v o).region = s.region := rfl
@[simp] theorem State.enqueue_meters (a : Actuator) (v : Int) (o : Origin) :
    (s.enqueue a v o).meters = s.meters := rfl
@[simp] theorem State.enqueue_faults (a : Actuator) (v : Int) (o : Origin) :
    (s.enqueue a v o).faults = s.faults := rfl
@[simp] theorem State.enqueue_roomOut (a : Actuator) (v : Int) (o : Origin) :
    (s.enqueue a v o).roomOut = s.roomOut := rfl
@[simp] theorem State.enqueue_plantOut (a : Actuator) (v : Int) (o : Origin) :
    (s.enqueue a v o).plantOut = s.plantOut := rfl
@[simp] theorem State.enqueue_pending (a : Actuator) (v : Int) (o : Origin) :
    (s.enqueue a v o).pending = s.pending := rfl

@[simp] theorem State.count_phase (m : Fin 23) : (s.count m).phase = s.phase := rfl
@[simp] theorem State.count_clock (m : Fin 23) : (s.count m).clock = s.clock := rfl
@[simp] theorem State.count_resetAt (m : Fin 23) : (s.count m).resetAt = s.resetAt := rfl
@[simp] theorem State.count_uptime (m : Fin 23) : (s.count m).uptime = s.uptime := rfl
@[simp] theorem State.count_tables (m : Fin 23) : (s.count m).tables = s.tables := rfl
@[simp] theorem State.count_zones (m : Fin 23) : (s.count m).zones = s.zones := rfl
@[simp] theorem State.count_economy (m : Fin 23) : (s.count m).economy = s.economy := rfl
@[simp] theorem State.count_quietTimer (m : Fin 23) : (s.count m).quietTimer = s.quietTimer := rfl
@[simp] theorem State.count_engine (m : Fin 23) : (s.count m).engine = s.engine := rfl
@[simp] theorem State.count_seq (m : Fin 23) : (s.count m).seq = s.seq := rfl
@[simp] theorem State.count_queue (m : Fin 23) : (s.count m).queue = s.queue := rfl
@[simp] theorem State.count_port (m : Fin 23) : (s.count m).port = s.port := rfl
@[simp] theorem State.count_room (m : Fin 23) : (s.count m).room = s.room := rfl
@[simp] theorem State.count_mgmt (m : Fin 23) : (s.count m).mgmt = s.mgmt := rfl
@[simp] theorem State.count_store (m : Fin 23) : (s.count m).store = s.store := rfl
@[simp] theorem State.count_region (m : Fin 23) : (s.count m).region = s.regionAtCount (m.val < 8) := rfl
@[simp] theorem State.count_meters (m : Fin 23) : (s.count m).meters = s.meters.modify m fun n => sat32 (n + 1) := rfl
@[simp] theorem State.count_faults (m : Fin 23) : (s.count m).faults = s.faults := rfl
@[simp] theorem State.count_roomOut (m : Fin 23) : (s.count m).roomOut = s.roomOut := rfl
@[simp] theorem State.count_plantOut (m : Fin 23) : (s.count m).plantOut = s.plantOut := rfl
@[simp] theorem State.count_pending (m : Fin 23) : (s.count m).pending = s.pending := rfl

@[simp] theorem State.countAll_phase (w : Fin 23 → Bool) : (s.countAll w).phase = s.phase := rfl
@[simp] theorem State.countAll_clock (w : Fin 23 → Bool) : (s.countAll w).clock = s.clock := rfl
@[simp] theorem State.countAll_resetAt (w : Fin 23 → Bool) : (s.countAll w).resetAt = s.resetAt := rfl
@[simp] theorem State.countAll_uptime (w : Fin 23 → Bool) : (s.countAll w).uptime = s.uptime := rfl
@[simp] theorem State.countAll_tables (w : Fin 23 → Bool) : (s.countAll w).tables = s.tables := rfl
@[simp] theorem State.countAll_zones (w : Fin 23 → Bool) : (s.countAll w).zones = s.zones := rfl
@[simp] theorem State.countAll_economy (w : Fin 23 → Bool) : (s.countAll w).economy = s.economy := rfl
@[simp] theorem State.countAll_quietTimer (w : Fin 23 → Bool) : (s.countAll w).quietTimer = s.quietTimer := rfl
@[simp] theorem State.countAll_engine (w : Fin 23 → Bool) : (s.countAll w).engine = s.engine := rfl
@[simp] theorem State.countAll_seq (w : Fin 23 → Bool) : (s.countAll w).seq = s.seq := rfl
@[simp] theorem State.countAll_queue (w : Fin 23 → Bool) : (s.countAll w).queue = s.queue := rfl
@[simp] theorem State.countAll_port (w : Fin 23 → Bool) : (s.countAll w).port = s.port := rfl
@[simp] theorem State.countAll_room (w : Fin 23 → Bool) : (s.countAll w).room = s.room := rfl
@[simp] theorem State.countAll_mgmt (w : Fin 23 → Bool) : (s.countAll w).mgmt = s.mgmt := rfl
@[simp] theorem State.countAll_store (w : Fin 23 → Bool) : (s.countAll w).store = s.store := rfl
@[simp] theorem State.countAll_region (w : Fin 23 → Bool) : (s.countAll w).region =
    s.regionAtCount ((List.finRange 23).any fun m => m.val < 8 && w m) := rfl
@[simp] theorem State.countAll_meters (w : Fin 23 → Bool) :
    (s.countAll w).meters = s.meters.mapIdx fun i n => if w i then sat32 (n + 1) else n := rfl
@[simp] theorem State.countAll_faults (w : Fin 23 → Bool) : (s.countAll w).faults = s.faults := rfl
@[simp] theorem State.countAll_roomOut (w : Fin 23 → Bool) : (s.countAll w).roomOut = s.roomOut := rfl
@[simp] theorem State.countAll_plantOut (w : Fin 23 → Bool) : (s.countAll w).plantOut = s.plantOut := rfl
@[simp] theorem State.countAll_pending (w : Fin 23 → Bool) : (s.countAll w).pending = s.pending := rfl

@[simp] theorem State.fault_phase (k : FaultKind) (x : Nat) (d : Int) : (s.fault k x d).phase = s.phase := rfl
@[simp] theorem State.fault_clock (k : FaultKind) (x : Nat) (d : Int) : (s.fault k x d).clock = s.clock := rfl
@[simp] theorem State.fault_resetAt (k : FaultKind) (x : Nat) (d : Int) : (s.fault k x d).resetAt = s.resetAt := rfl
@[simp] theorem State.fault_uptime (k : FaultKind) (x : Nat) (d : Int) : (s.fault k x d).uptime = s.uptime := rfl
@[simp] theorem State.fault_tables (k : FaultKind) (x : Nat) (d : Int) : (s.fault k x d).tables = s.tables := rfl
@[simp] theorem State.fault_zones (k : FaultKind) (x : Nat) (d : Int) : (s.fault k x d).zones = s.zones := rfl
@[simp] theorem State.fault_economy (k : FaultKind) (x : Nat) (d : Int) : (s.fault k x d).economy = s.economy := rfl
@[simp] theorem State.fault_quietTimer (k : FaultKind) (x : Nat) (d : Int) :
    (s.fault k x d).quietTimer = s.quietTimer := rfl
@[simp] theorem State.fault_engine (k : FaultKind) (x : Nat) (d : Int) : (s.fault k x d).engine = s.engine := rfl
@[simp] theorem State.fault_seq (k : FaultKind) (x : Nat) (d : Int) : (s.fault k x d).seq = s.seq := rfl
@[simp] theorem State.fault_queue (k : FaultKind) (x : Nat) (d : Int) : (s.fault k x d).queue = s.queue := rfl
@[simp] theorem State.fault_port (k : FaultKind) (x : Nat) (d : Int) : (s.fault k x d).port = s.port := rfl
@[simp] theorem State.fault_room (k : FaultKind) (x : Nat) (d : Int) : (s.fault k x d).room = s.room := rfl
@[simp] theorem State.fault_mgmt (k : FaultKind) (x : Nat) (d : Int) : (s.fault k x d).mgmt = s.mgmt := rfl
@[simp] theorem State.fault_store (k : FaultKind) (x : Nat) (d : Int) : (s.fault k x d).store = s.store := rfl
@[simp] theorem State.fault_region (k : FaultKind) (x : Nat) (d : Int) : (s.fault k x d).region = s.region := rfl
@[simp] theorem State.fault_meters (k : FaultKind) (x : Nat) (d : Int) : (s.fault k x d).meters = s.meters := rfl
@[simp] theorem State.fault_faults (k : FaultKind) (x : Nat) (d : Int) :
    (s.fault k x d).faults = pushFault s.faults ⟨k, x, s.uptime, d⟩ := rfl
@[simp] theorem State.fault_roomOut (k : FaultKind) (x : Nat) (d : Int) : (s.fault k x d).roomOut = s.roomOut := rfl
@[simp] theorem State.fault_plantOut (k : FaultKind) (x : Nat) (d : Int) :
    (s.fault k x d).plantOut = s.plantOut := rfl
@[simp] theorem State.fault_pending (k : FaultKind) (x : Nat) (d : Int) : (s.fault k x d).pending = s.pending := rfl

@[simp] theorem State.sendRoom_phase (f : Frame) : (s.sendRoom f).phase = s.phase := rfl
@[simp] theorem State.sendRoom_clock (f : Frame) : (s.sendRoom f).clock = s.clock := rfl
@[simp] theorem State.sendRoom_resetAt (f : Frame) : (s.sendRoom f).resetAt = s.resetAt := rfl
@[simp] theorem State.sendRoom_uptime (f : Frame) : (s.sendRoom f).uptime = s.uptime := rfl
@[simp] theorem State.sendRoom_tables (f : Frame) : (s.sendRoom f).tables = s.tables := rfl
@[simp] theorem State.sendRoom_zones (f : Frame) : (s.sendRoom f).zones = s.zones := rfl
@[simp] theorem State.sendRoom_economy (f : Frame) : (s.sendRoom f).economy = s.economy := rfl
@[simp] theorem State.sendRoom_quietTimer (f : Frame) : (s.sendRoom f).quietTimer = s.quietTimer := rfl
@[simp] theorem State.sendRoom_engine (f : Frame) : (s.sendRoom f).engine = s.engine := rfl
@[simp] theorem State.sendRoom_seq (f : Frame) : (s.sendRoom f).seq = s.seq := rfl
@[simp] theorem State.sendRoom_queue (f : Frame) : (s.sendRoom f).queue = s.queue := rfl
@[simp] theorem State.sendRoom_port (f : Frame) : (s.sendRoom f).port = s.port := rfl
@[simp] theorem State.sendRoom_room (f : Frame) : (s.sendRoom f).room = s.room := rfl
@[simp] theorem State.sendRoom_mgmt (f : Frame) : (s.sendRoom f).mgmt = s.mgmt := rfl
@[simp] theorem State.sendRoom_store (f : Frame) : (s.sendRoom f).store = s.store := rfl
@[simp] theorem State.sendRoom_region (f : Frame) : (s.sendRoom f).region = s.region := rfl
@[simp] theorem State.sendRoom_meters (f : Frame) : (s.sendRoom f).meters = s.meters := rfl
@[simp] theorem State.sendRoom_faults (f : Frame) : (s.sendRoom f).faults = s.faults := rfl
@[simp] theorem State.sendRoom_roomOut (f : Frame) : (s.sendRoom f).roomOut = s.roomOut ++ [f] := rfl
@[simp] theorem State.sendRoom_plantOut (f : Frame) : (s.sendRoom f).plantOut = s.plantOut := rfl
@[simp] theorem State.sendRoom_pending (f : Frame) : (s.sendRoom f).pending = s.pending := rfl

@[simp] theorem State.reply_phase (a b q : Byte) (st : Status) (d : List Byte) :
    (s.reply a b q st d).phase = s.phase := rfl
@[simp] theorem State.reply_clock (a b q : Byte) (st : Status) (d : List Byte) :
    (s.reply a b q st d).clock = s.clock := rfl
@[simp] theorem State.reply_resetAt (a b q : Byte) (st : Status) (d : List Byte) :
    (s.reply a b q st d).resetAt = s.resetAt := rfl
@[simp] theorem State.reply_uptime (a b q : Byte) (st : Status) (d : List Byte) :
    (s.reply a b q st d).uptime = s.uptime := rfl
@[simp] theorem State.reply_tables (a b q : Byte) (st : Status) (d : List Byte) :
    (s.reply a b q st d).tables = s.tables := rfl
@[simp] theorem State.reply_zones (a b q : Byte) (st : Status) (d : List Byte) :
    (s.reply a b q st d).zones = s.zones := rfl
@[simp] theorem State.reply_economy (a b q : Byte) (st : Status) (d : List Byte) :
    (s.reply a b q st d).economy = s.economy := rfl
@[simp] theorem State.reply_quietTimer (a b q : Byte) (st : Status) (d : List Byte) :
    (s.reply a b q st d).quietTimer = s.quietTimer := rfl
@[simp] theorem State.reply_engine (a b q : Byte) (st : Status) (d : List Byte) :
    (s.reply a b q st d).engine = s.engine := rfl
@[simp] theorem State.reply_seq (a b q : Byte) (st : Status) (d : List Byte) : (s.reply a b q st d).seq = s.seq := rfl
@[simp] theorem State.reply_queue (a b q : Byte) (st : Status) (d : List Byte) :
    (s.reply a b q st d).queue = s.queue := rfl
@[simp] theorem State.reply_port (a b q : Byte) (st : Status) (d : List Byte) :
    (s.reply a b q st d).port = s.port := rfl
@[simp] theorem State.reply_room (a b q : Byte) (st : Status) (d : List Byte) :
    (s.reply a b q st d).room = s.room := rfl
@[simp] theorem State.reply_mgmt (a b q : Byte) (st : Status) (d : List Byte) :
    (s.reply a b q st d).mgmt = s.mgmt := rfl
@[simp] theorem State.reply_store (a b q : Byte) (st : Status) (d : List Byte) :
    (s.reply a b q st d).store = s.store := rfl
@[simp] theorem State.reply_region (a b q : Byte) (st : Status) (d : List Byte) :
    (s.reply a b q st d).region = s.region := rfl
@[simp] theorem State.reply_meters (a b q : Byte) (st : Status) (d : List Byte) :
    (s.reply a b q st d).meters = s.meters := rfl
@[simp] theorem State.reply_faults (a b q : Byte) (st : Status) (d : List Byte) :
    (s.reply a b q st d).faults = s.faults := rfl
@[simp] theorem State.reply_roomOut (a b q : Byte) (st : Status) (d : List Byte) :
    (s.reply a b q st d).roomOut = s.roomOut ++ [⟨b, a, kindReply, q, st.code :: d⟩] := rfl
@[simp] theorem State.reply_plantOut (a b q : Byte) (st : Status) (d : List Byte) :
    (s.reply a b q st d).plantOut = s.plantOut := rfl
@[simp] theorem State.reply_pending (a b q : Byte) (st : Status) (d : List Byte) :
    (s.reply a b q st d).pending = s.pending := rfl

@[simp] theorem State.answer_phase (src q : Byte) (st : Status) (d : List Byte) :
    (s.answer src q st d).phase = s.phase := rfl
@[simp] theorem State.answer_clock (src q : Byte) (st : Status) (d : List Byte) :
    (s.answer src q st d).clock = s.clock := rfl
@[simp] theorem State.answer_resetAt (src q : Byte) (st : Status) (d : List Byte) :
    (s.answer src q st d).resetAt = s.resetAt := rfl
@[simp] theorem State.answer_uptime (src q : Byte) (st : Status) (d : List Byte) :
    (s.answer src q st d).uptime = s.uptime := rfl
@[simp] theorem State.answer_tables (src q : Byte) (st : Status) (d : List Byte) :
    (s.answer src q st d).tables = s.tables := rfl
@[simp] theorem State.answer_zones (src q : Byte) (st : Status) (d : List Byte) :
    (s.answer src q st d).zones = s.zones := rfl
@[simp] theorem State.answer_economy (src q : Byte) (st : Status) (d : List Byte) :
    (s.answer src q st d).economy = s.economy := rfl
@[simp] theorem State.answer_quietTimer (src q : Byte) (st : Status) (d : List Byte) :
    (s.answer src q st d).quietTimer = s.quietTimer := rfl
@[simp] theorem State.answer_engine (src q : Byte) (st : Status) (d : List Byte) :
    (s.answer src q st d).engine = s.engine := rfl
@[simp] theorem State.answer_seq (src q : Byte) (st : Status) (d : List Byte) :
    (s.answer src q st d).seq = s.seq := rfl
@[simp] theorem State.answer_queue (src q : Byte) (st : Status) (d : List Byte) :
    (s.answer src q st d).queue = s.queue := rfl
@[simp] theorem State.answer_port (src q : Byte) (st : Status) (d : List Byte) :
    (s.answer src q st d).port = s.port := rfl
@[simp] theorem State.answer_room (src q : Byte) (st : Status) (d : List Byte) :
    (s.answer src q st d).room = s.room := rfl
@[simp] theorem State.answer_mgmt (src q : Byte) (st : Status) (d : List Byte) :
    (s.answer src q st d).mgmt = s.mgmt := rfl
@[simp] theorem State.answer_store (src q : Byte) (st : Status) (d : List Byte) :
    (s.answer src q st d).store = s.store := rfl
@[simp] theorem State.answer_region (src q : Byte) (st : Status) (d : List Byte) :
    (s.answer src q st d).region = s.region := rfl
@[simp] theorem State.answer_meters (src q : Byte) (st : Status) (d : List Byte) :
    (s.answer src q st d).meters = s.meters := rfl
@[simp] theorem State.answer_faults (src q : Byte) (st : Status) (d : List Byte) :
    (s.answer src q st d).faults = s.faults := rfl
@[simp] theorem State.answer_roomOut (src q : Byte) (st : Status) (d : List Byte) :
    (s.answer src q st d).roomOut = s.roomOut ++ [⟨src, s.ownAddress, kindReply, q, st.code :: d⟩] := rfl
@[simp] theorem State.answer_plantOut (src q : Byte) (st : Status) (d : List Byte) :
    (s.answer src q st d).plantOut = s.plantOut := rfl
@[simp] theorem State.answer_pending (src q : Byte) (st : Status) (d : List Byte) :
    (s.answer src q st d).pending = s.pending := rfl

@[simp] theorem State.sendPlant_phase (w : ExchangeKind) (a : Nat) (q k : Byte) (p : List Byte) :
    (s.sendPlant w a q k p).phase = s.phase := rfl
@[simp] theorem State.sendPlant_clock (w : ExchangeKind) (a : Nat) (q k : Byte) (p : List Byte) :
    (s.sendPlant w a q k p).clock = s.clock := rfl
@[simp] theorem State.sendPlant_resetAt (w : ExchangeKind) (a : Nat) (q k : Byte) (p : List Byte) :
    (s.sendPlant w a q k p).resetAt = s.resetAt := rfl
@[simp] theorem State.sendPlant_uptime (w : ExchangeKind) (a : Nat) (q k : Byte) (p : List Byte) :
    (s.sendPlant w a q k p).uptime = s.uptime := rfl
@[simp] theorem State.sendPlant_tables (w : ExchangeKind) (a : Nat) (q k : Byte) (p : List Byte) :
    (s.sendPlant w a q k p).tables = s.tables := rfl
@[simp] theorem State.sendPlant_zones (w : ExchangeKind) (a : Nat) (q k : Byte) (p : List Byte) :
    (s.sendPlant w a q k p).zones = s.zones := rfl
@[simp] theorem State.sendPlant_economy (w : ExchangeKind) (a : Nat) (q k : Byte) (p : List Byte) :
    (s.sendPlant w a q k p).economy = s.economy := rfl
@[simp] theorem State.sendPlant_quietTimer (w : ExchangeKind) (a : Nat) (q k : Byte) (p : List Byte) :
    (s.sendPlant w a q k p).quietTimer = s.quietTimer := rfl
@[simp] theorem State.sendPlant_engine (w : ExchangeKind) (a : Nat) (q k : Byte) (p : List Byte) :
    (s.sendPlant w a q k p).engine = s.engine := rfl
@[simp] theorem State.sendPlant_seq (w : ExchangeKind) (a : Nat) (q k : Byte) (p : List Byte) :
    (s.sendPlant w a q k p).seq = s.seq := rfl
@[simp] theorem State.sendPlant_queue (w : ExchangeKind) (a : Nat) (q k : Byte) (p : List Byte) :
    (s.sendPlant w a q k p).queue = s.queue := rfl
@[simp] theorem State.sendPlant_port (w : ExchangeKind) (a : Nat) (q k : Byte) (p : List Byte) :
    (s.sendPlant w a q k p).port = { s.port with exchange := some ⟨w, a, q, s.timer 50⟩ } := rfl
@[simp] theorem State.sendPlant_room (w : ExchangeKind) (a : Nat) (q k : Byte) (p : List Byte) :
    (s.sendPlant w a q k p).room = s.room := rfl
@[simp] theorem State.sendPlant_mgmt (w : ExchangeKind) (a : Nat) (q k : Byte) (p : List Byte) :
    (s.sendPlant w a q k p).mgmt = s.mgmt := rfl
@[simp] theorem State.sendPlant_store (w : ExchangeKind) (a : Nat) (q k : Byte) (p : List Byte) :
    (s.sendPlant w a q k p).store = s.store := rfl
@[simp] theorem State.sendPlant_region (w : ExchangeKind) (a : Nat) (q k : Byte) (p : List Byte) :
    (s.sendPlant w a q k p).region = s.region := rfl
@[simp] theorem State.sendPlant_meters (w : ExchangeKind) (a : Nat) (q k : Byte) (p : List Byte) :
    (s.sendPlant w a q k p).meters = s.meters := rfl
@[simp] theorem State.sendPlant_faults (w : ExchangeKind) (a : Nat) (q k : Byte) (p : List Byte) :
    (s.sendPlant w a q k p).faults = s.faults := rfl
@[simp] theorem State.sendPlant_roomOut (w : ExchangeKind) (a : Nat) (q k : Byte) (p : List Byte) :
    (s.sendPlant w a q k p).roomOut = s.roomOut := rfl
@[simp] theorem State.sendPlant_plantOut (w : ExchangeKind) (a : Nat) (q k : Byte) (p : List Byte) :
    (s.sendPlant w a q k p).plantOut = s.plantOut ++ [⟨BitVec.ofNat 8 a, Config.plantAddress, k, q, p⟩] := rfl
@[simp] theorem State.sendPlant_pending (w : ExchangeKind) (a : Nat) (q k : Byte) (p : List Byte) :
    (s.sendPlant w a q k p).pending = s.pending := rfl

@[simp] theorem State.startQuietTimer_phase : (s.startQuietTimer).phase = s.phase := rfl
@[simp] theorem State.startQuietTimer_clock : (s.startQuietTimer).clock = s.clock := rfl
@[simp] theorem State.startQuietTimer_resetAt : (s.startQuietTimer).resetAt = s.resetAt := rfl
@[simp] theorem State.startQuietTimer_uptime : (s.startQuietTimer).uptime = s.uptime := rfl
@[simp] theorem State.startQuietTimer_tables : (s.startQuietTimer).tables = s.tables := rfl
@[simp] theorem State.startQuietTimer_zones : (s.startQuietTimer).zones = s.zones := rfl
@[simp] theorem State.startQuietTimer_economy : (s.startQuietTimer).economy = s.economy := rfl
@[simp] theorem State.startQuietTimer_quietTimer :
    (s.startQuietTimer).quietTimer = s.timer (mins s.tables.plant.quietEntryTime) := rfl
@[simp] theorem State.startQuietTimer_engine : (s.startQuietTimer).engine = s.engine := rfl
@[simp] theorem State.startQuietTimer_seq : (s.startQuietTimer).seq = s.seq := rfl
@[simp] theorem State.startQuietTimer_queue : (s.startQuietTimer).queue = s.queue := rfl
@[simp] theorem State.startQuietTimer_port : (s.startQuietTimer).port = s.port := rfl
@[simp] theorem State.startQuietTimer_room : (s.startQuietTimer).room = s.room := rfl
@[simp] theorem State.startQuietTimer_mgmt : (s.startQuietTimer).mgmt = s.mgmt := rfl
@[simp] theorem State.startQuietTimer_store : (s.startQuietTimer).store = s.store := rfl
@[simp] theorem State.startQuietTimer_region : (s.startQuietTimer).region = s.region := rfl
@[simp] theorem State.startQuietTimer_meters : (s.startQuietTimer).meters = s.meters := rfl
@[simp] theorem State.startQuietTimer_faults : (s.startQuietTimer).faults = s.faults := rfl
@[simp] theorem State.startQuietTimer_roomOut : (s.startQuietTimer).roomOut = s.roomOut := rfl
@[simp] theorem State.startQuietTimer_plantOut : (s.startQuietTimer).plantOut = s.plantOut := rfl
@[simp] theorem State.startQuietTimer_pending : (s.startQuietTimer).pending = s.pending := rfl

@[simp] theorem State.startHoldoff_phase : (s.startHoldoff).phase = s.phase := rfl
@[simp] theorem State.startHoldoff_clock : (s.startHoldoff).clock = s.clock := rfl
@[simp] theorem State.startHoldoff_resetAt : (s.startHoldoff).resetAt = s.resetAt := rfl
@[simp] theorem State.startHoldoff_uptime : (s.startHoldoff).uptime = s.uptime := rfl
@[simp] theorem State.startHoldoff_tables : (s.startHoldoff).tables = s.tables := rfl
@[simp] theorem State.startHoldoff_zones : (s.startHoldoff).zones = s.zones := rfl
@[simp] theorem State.startHoldoff_economy : (s.startHoldoff).economy = s.economy := rfl
@[simp] theorem State.startHoldoff_quietTimer : (s.startHoldoff).quietTimer = s.quietTimer := rfl
@[simp] theorem State.startHoldoff_engine : (s.startHoldoff).engine = s.engine := rfl
@[simp] theorem State.startHoldoff_seq : (s.startHoldoff).seq = s.seq := rfl
@[simp] theorem State.startHoldoff_queue : (s.startHoldoff).queue = s.queue := rfl
@[simp] theorem State.startHoldoff_port : (s.startHoldoff).port = s.port := rfl
@[simp] theorem State.startHoldoff_room : (s.startHoldoff).room = s.room := rfl
@[simp] theorem State.startHoldoff_mgmt :
    (s.startHoldoff).mgmt = { s.mgmt with holdoff := s.timer (secs s.tables.report.holdoff) } := rfl
@[simp] theorem State.startHoldoff_store : (s.startHoldoff).store = s.store := rfl
@[simp] theorem State.startHoldoff_region : (s.startHoldoff).region = s.region := rfl
@[simp] theorem State.startHoldoff_meters : (s.startHoldoff).meters = s.meters := rfl
@[simp] theorem State.startHoldoff_faults : (s.startHoldoff).faults = s.faults := rfl
@[simp] theorem State.startHoldoff_roomOut : (s.startHoldoff).roomOut = s.roomOut := rfl
@[simp] theorem State.startHoldoff_plantOut : (s.startHoldoff).plantOut = s.plantOut := rfl
@[simp] theorem State.startHoldoff_pending : (s.startHoldoff).pending = s.pending := rfl

@[simp] theorem State.broadcast_phase : (s.broadcast).phase = s.phase := rfl
@[simp] theorem State.broadcast_clock : (s.broadcast).clock = s.clock := rfl
@[simp] theorem State.broadcast_resetAt : (s.broadcast).resetAt = s.resetAt := rfl
@[simp] theorem State.broadcast_uptime : (s.broadcast).uptime = s.uptime := rfl
@[simp] theorem State.broadcast_tables : (s.broadcast).tables = s.tables := rfl
@[simp] theorem State.broadcast_zones : (s.broadcast).zones = s.zones := rfl
@[simp] theorem State.broadcast_economy : (s.broadcast).economy = s.economy := rfl
@[simp] theorem State.broadcast_quietTimer : (s.broadcast).quietTimer = s.quietTimer := rfl
@[simp] theorem State.broadcast_engine : (s.broadcast).engine = s.engine := rfl
@[simp] theorem State.broadcast_seq : (s.broadcast).seq = s.seq := rfl
@[simp] theorem State.broadcast_queue : (s.broadcast).queue = s.queue := rfl
@[simp] theorem State.broadcast_port : (s.broadcast).port = s.port := rfl
@[simp] theorem State.broadcast_room : (s.broadcast).room = s.room := rfl
@[simp] theorem State.broadcast_mgmt : (s.broadcast).mgmt = { s.mgmt with count := s.mgmt.count + 1 } := rfl
@[simp] theorem State.broadcast_store : (s.broadcast).store = s.store := rfl
@[simp] theorem State.broadcast_region : (s.broadcast).region = s.region := rfl
@[simp] theorem State.broadcast_meters : (s.broadcast).meters = s.meters := rfl
@[simp] theorem State.broadcast_faults : (s.broadcast).faults = s.faults := rfl
@[simp] theorem State.broadcast_roomOut :
    (s.broadcast).roomOut = s.roomOut ++ [⟨Config.broadcastAddress, s.ownAddress, kindBroadcast, s.mgmt.count, s.broadcastPayload⟩] := rfl
@[simp] theorem State.broadcast_plantOut : (s.broadcast).plantOut = s.plantOut := rfl
@[simp] theorem State.broadcast_pending : (s.broadcast).pending = s.pending := rfl

@[simp] theorem State.remember_phase (b : Bool) : (s.remember b).phase = s.phase := rfl
@[simp] theorem State.remember_clock (b : Bool) : (s.remember b).clock = s.clock := rfl
@[simp] theorem State.remember_resetAt (b : Bool) : (s.remember b).resetAt = s.resetAt := rfl
@[simp] theorem State.remember_uptime (b : Bool) : (s.remember b).uptime = s.uptime := rfl
@[simp] theorem State.remember_tables (b : Bool) : (s.remember b).tables = s.tables := rfl
@[simp] theorem State.remember_zones (b : Bool) : (s.remember b).zones = s.zones := rfl
@[simp] theorem State.remember_economy (b : Bool) : (s.remember b).economy = s.economy := rfl
@[simp] theorem State.remember_quietTimer (b : Bool) : (s.remember b).quietTimer = s.quietTimer := rfl
@[simp] theorem State.remember_engine (b : Bool) : (s.remember b).engine = s.engine := rfl
@[simp] theorem State.remember_seq (b : Bool) : (s.remember b).seq = s.seq := rfl
@[simp] theorem State.remember_queue (b : Bool) : (s.remember b).queue = s.queue := rfl
@[simp] theorem State.remember_port (b : Bool) :
    (s.remember b).port = { s.port with grants := (b :: s.port.grants).take 3 } := rfl
@[simp] theorem State.remember_room (b : Bool) : (s.remember b).room = s.room := rfl
@[simp] theorem State.remember_mgmt (b : Bool) : (s.remember b).mgmt = s.mgmt := rfl
@[simp] theorem State.remember_store (b : Bool) : (s.remember b).store = s.store := rfl
@[simp] theorem State.remember_region (b : Bool) : (s.remember b).region = s.region := rfl
@[simp] theorem State.remember_meters (b : Bool) : (s.remember b).meters = s.meters := rfl
@[simp] theorem State.remember_faults (b : Bool) : (s.remember b).faults = s.faults := rfl
@[simp] theorem State.remember_roomOut (b : Bool) : (s.remember b).roomOut = s.roomOut := rfl
@[simp] theorem State.remember_plantOut (b : Bool) : (s.remember b).plantOut = s.plantOut := rfl
@[simp] theorem State.remember_pending (b : Bool) : (s.remember b).pending = s.pending := rfl

@[simp] theorem State.idle_phase : (s.idle).phase = s.phase := rfl
@[simp] theorem State.idle_clock : (s.idle).clock = s.clock + 1 := rfl
@[simp] theorem State.idle_resetAt : (s.idle).resetAt = s.resetAt := rfl
@[simp] theorem State.idle_uptime : (s.idle).uptime = s.uptime := rfl
@[simp] theorem State.idle_tables : (s.idle).tables = s.tables := rfl
@[simp] theorem State.idle_zones : (s.idle).zones = s.zones := rfl
@[simp] theorem State.idle_economy : (s.idle).economy = s.economy := rfl
@[simp] theorem State.idle_quietTimer : (s.idle).quietTimer = s.quietTimer := rfl
@[simp] theorem State.idle_engine : (s.idle).engine = s.engine := rfl
@[simp] theorem State.idle_seq : (s.idle).seq = s.seq := rfl
@[simp] theorem State.idle_queue : (s.idle).queue = s.queue := rfl
@[simp] theorem State.idle_port : (s.idle).port = s.port := rfl
@[simp] theorem State.idle_room : (s.idle).room = s.room := rfl
@[simp] theorem State.idle_mgmt : (s.idle).mgmt = s.mgmt := rfl
@[simp] theorem State.idle_store : (s.idle).store = s.store := rfl
@[simp] theorem State.idle_region : (s.idle).region = s.region := rfl
@[simp] theorem State.idle_meters : (s.idle).meters = s.meters := rfl
@[simp] theorem State.idle_faults : (s.idle).faults = s.faults := rfl
@[simp] theorem State.idle_roomOut : (s.idle).roomOut = s.roomOut := rfl
@[simp] theorem State.idle_plantOut : (s.idle).plantOut = s.plantOut := rfl
@[simp] theorem State.idle_pending : (s.idle).pending = s.pending := rfl

end Sys2Proof.Machine
end

