-- ==== Sys2Proof/Laws/Broadcast.lean ====
section
/-! SUPPORT. The broadcasts of a step (R187): which changes a step counts, and that answering them touches the broadcast's
record and the frames sent alone. -/

namespace Sys2Proof.Machine

/-- A step that leaves the plant state, the latest result and the zones as they were has no change to answer. -/
theorem changesBetween_zero {s t : State} (h1 : t.seq.state = s.seq.state) (h2 : t.engine.latest = s.engine.latest)
    (h3 : t.zones = s.zones) : changesBetween s t = 0 := by
  simp [changesBetween, h1, State.latestMode, h2, State.zone, h3]

/-- Answering the changes of a step touches the broadcast's record and the frames sent alone. -/
theorem State.answerChanges_eq (b s : State) :
    State.answerChanges b s
      = { s with mgmt := (State.answerChanges b s).mgmt, roomOut := (State.answerChanges b s).roomOut } := by
  unfold State.answerChanges
  dsimp only
  split
  · split
    · rfl
    · split <;> rfl
  · rfl

/-- All it can send is broadcasts, after the frames already sent. -/
theorem State.answerChanges_sent (b s : State) :
    ∃ bs : List Frame, (State.answerChanges b s).roomOut = s.roomOut ++ bs ∧ ∀ f ∈ bs, f.dst = 127 ∧ f.kind = 0x0F := by
  unfold State.answerChanges
  dsimp only
  split
  · split
    · exact ⟨[], by simp [State.setMgmt], by simp⟩
    · split
      · exact ⟨[_], rfl, by simp⟩
      · exact ⟨[_], rfl, by simp⟩
  · exact ⟨[], by simp, by simp⟩

theorem State.answerChanges_unchanged {b s : State} (h1 : s.seq.state = b.seq.state)
    (h2 : s.engine.latest = b.engine.latest) (h3 : s.zones = b.zones) : State.answerChanges b s = s := by
  unfold State.answerChanges
  simp [changesBetween_zero h1 h2 h3]

theorem State.answerChanges_notRunning {b s : State} (h : s.phase ≠ .running) : State.answerChanges b s = s := by
  unfold State.answerChanges
  simp [h]

theorem State.finishStopping_of_ne {s : State} (h : s.phase ≠ .stopping) : s.finishStopping = s := by
  simp [State.finishStopping, h]

end Sys2Proof.Machine
end

