-- ==== Sys2Proof/Laws/Memory.lean ====
section
/-! SUPPORT. The store: every write keeps the canonical form, and a byte read after a write is the byte written inside the
block and the byte that stood before outside it. -/

namespace Sys2Proof.Machine

theorem mem_listedFrom {a : Nat} {bs : List Byte} {c : Host.Cell} (h : c ∈ listedFrom a bs) :
    a ≤ c.1 ∧ c.1 < a + bs.length ∧ c.2 ≠ 0xFF := by
  induction bs generalizing a with
  | nil => simp [listedFrom] at h
  | cons b bs ih =>
    unfold listedFrom at h
    split at h
    · have := ih h
      exact ⟨by omega, by simp only [List.length_cons]; omega, this.2.2⟩
    · next hb =>
      rcases List.mem_cons.1 h with rfl | h
      · exact ⟨Nat.le_refl _, by simp, hb⟩
      · have := ih h
        exact ⟨by omega, by simp only [List.length_cons]; omega, this.2.2⟩

theorem pairwise_listedFrom (a : Nat) (bs : List Byte) : (listedFrom a bs).Pairwise (fun x y => x.1 < y.1) := by
  induction bs generalizing a with
  | nil => exact .nil
  | cons b bs ih =>
    unfold listedFrom
    split
    · exact ih _
    · exact .cons (fun c hc => (mem_listedFrom hc).1) (ih _)

/-- A write inside the store keeps the canonical form. -/
theorem writeBlock_wf {cells : List Host.Cell} (a : Nat) (bs : List Byte) (h : Memory.wf cells)
    (hb : a + bs.length ≤ Config.storeSize) : Memory.wf (writeBlock cells a bs) := by
  refine ⟨?_, ?_⟩
  · unfold writeBlock
    rw [List.pairwise_append, List.pairwise_append]
    refine ⟨⟨h.1.filter _, pairwise_listedFrom a bs, ?_⟩, h.1.filter _, ?_⟩
    · intro x hx y hy
      have := (List.mem_filter.1 hx).2
      have := (mem_listedFrom hy).1
      simp at *; omega
    · intro x hx y hy
      have hy' := (List.mem_filter.1 hy).2
      rcases List.mem_append.1 hx with hx | hx
      · have := (List.mem_filter.1 hx).2
        simp at *; omega
      · have := (mem_listedFrom hx).2.1
        simp at *; omega
  · intro c hc
    unfold writeBlock at hc
    rcases List.mem_append.1 hc with hc | hc
    · rcases List.mem_append.1 hc with hc | hc
      · exact h.2 c (List.mem_filter.1 hc).1
      · have := mem_listedFrom hc
        exact ⟨by omega, this.2.2⟩
    · exact h.2 c (List.mem_filter.1 hc).1

theorem cellAt_append (xs ys : List Host.Cell) (a : Nat) (h : ∀ c ∈ xs, c.1 ≠ a) :
    cellAt (xs ++ ys) a = cellAt ys a := by
  induction xs with
  | nil => rfl
  | cons c xs ih =>
    simp only [List.cons_append, cellAt]
    rw [if_neg (h c (by simp)), ih fun d hd => h d (by simp [hd])]

theorem cellAt_append_left (xs ys : List Host.Cell) (a : Nat) (h : ∀ c ∈ ys, c.1 ≠ a) :
    cellAt (xs ++ ys) a = cellAt xs a := by
  induction xs with
  | nil =>
    have := cellAt_append ys [] a h
    simpa using this
  | cons c xs ih => simp only [List.cons_append, cellAt, ih]

theorem cellAt_filter (cells : List Host.Cell) (p : Host.Cell → Bool) (a : Nat) (h : ∀ c ∈ cells, c.1 = a → p c = true) :
    cellAt (cells.filter p) a = cellAt cells a := by
  induction cells with
  | nil => rfl
  | cons c cells ih =>
    have ih' := ih fun d hd => h d (by simp [hd])
    rw [List.filter_cons]
    split
    · simp only [cellAt, ih']
    · next hp =>
      have : c.1 ≠ a := fun e => hp (h c (by simp) e)
      simp only [cellAt, ih', if_neg this]

/-- Outside the block a write leaves the byte. -/
theorem cellAt_writeBlock_outside (cells : List Host.Cell) (a : Nat) (bs : List Byte) (x : Nat)
    (hx : x < a ∨ a + bs.length ≤ x) : cellAt (writeBlock cells a bs) x = cellAt cells x := by
  unfold writeBlock
  have hl : ∀ c ∈ listedFrom a bs, c.1 ≠ x := fun c hc => by have := mem_listedFrom hc; omega
  rcases hx with hx | hx
  · rw [cellAt_append_left _ _ x (fun c hc => by have := (List.mem_filter.1 hc).2; simp at this; omega),
      cellAt_append_left _ _ x hl]
    exact cellAt_filter _ _ _ fun c _ e => by simp; omega
  · rw [cellAt_append _ _ x]
    · exact cellAt_filter _ _ _ fun c _ e => by simp; omega
    · intro c hc
      rcases List.mem_append.1 hc with hc | hc
      · have := (List.mem_filter.1 hc).2; simp at this; omega
      · exact hl c hc

theorem cellAt_listedFrom (a : Nat) (bs : List Byte) (i : Nat) (hi : i < bs.length) :
    cellAt (listedFrom a bs) (a + i) = bs[i] := by
  induction bs generalizing a i with
  | nil => simp at hi
  | cons b bs ih =>
    have hno : ∀ c ∈ listedFrom (a + 1) bs, c.1 ≠ a := fun c hc => by have := mem_listedFrom hc; omega
    unfold listedFrom
    cases i with
    | zero =>
      split
      · next hb =>
        have := cellAt_append (listedFrom (a + 1) bs) [] a hno
        simp only [List.append_nil, cellAt] at this
        simpa [hb] using this
      · simp [cellAt]
    | succ i =>
      have h := ih (a + 1) i (by simpa using hi)
      rw [show a + 1 + i = a + (i + 1) by omega] at h
      split
      · simpa using h
      · rw [cellAt, if_neg (show (a, b).1 ≠ a + (i + 1) by simp)]
        simpa using h

/-- Inside the block the byte written is read back. -/
theorem cellAt_writeBlock_inside (cells : List Host.Cell) (a : Nat) (bs : List Byte) (i : Nat) (hi : i < bs.length) :
    cellAt (writeBlock cells a bs) (a + i) = bs[i] := by
  unfold writeBlock
  rw [cellAt_append_left _ _ _ (fun c hc => by have := (List.mem_filter.1 hc).2; simp at this; omega),
    cellAt_append _ _ _ (fun c hc => by have := (List.mem_filter.1 hc).2; simp at this; omega)]
  exact cellAt_listedFrom a bs i hi

theorem allFields_length : allFields.length = 497 := by decide +kernel

theorem recordBytes_length (T : Tables) : (recordBytes T).length = 2988 := by
  unfold recordBytes
  rw [List.length_append, List.length_flatMap, List.length_replicate]
  have : (allFields.map fun x : Nat × Nat × Nat =>
      ([BitVec.ofNat 8 x.1, BitVec.ofNat 8 x.2.1, BitVec.ofNat 8 x.2.2] ++ bytes3 (T.read x.1 x.2.1 x.2.2)).length)
      = List.replicate 497 6 := by
    rw [List.eq_replicate_iff]
    refine ⟨by rw [List.length_map, allFields_length], fun n hn => ?_⟩
    obtain ⟨x, _, rfl⟩ := List.mem_map.1 hn
    simp [bytes3]
  rw [this, List.sum_replicate_nat]

theorem meterBytes_length (ms : List Nat) : (meterBytes ms).length = 4 * ms.length := by
  induction ms with
  | nil => rfl
  | cons m ms ih =>
    have : meterBytes (m :: ms) = bytes4 m ++ meterBytes ms := rfl
    rw [this, List.length_append, ih, List.length_cons]
    simp only [bytes4, List.length_cons, List.length_nil]; omega

/-- The pages of a save keep the canonical form (R192). -/
theorem afterSavePages_wf {cells : List Host.Cell} (T : Tables) (ms : List Nat) (pages : Nat) (h : Memory.wf cells)
    (hm : ms.length ≤ 8) : Memory.wf (afterSavePages cells T ms pages) := by
  have hr : Memory.wf (writeBlock cells 0 ((recordBytes T).take (32 * pages))) :=
    writeBlock_wf 0 _ h (by
      rw [List.length_take, recordBytes_length]; simp only [Config.storeSize]; omega)
  unfold afterSavePages
  dsimp only
  split
  · exact writeBlock_wf 4032 _ hr (by rw [meterBytes_length]; simp only [Config.storeSize]; omega)
  · exact hr

/-- A save writes eight meters. -/
theorem State.regionMeters_length {s : State} (h : s.storeSafe) : s.regionMeters.length = 8 := by
  unfold State.regionMeters
  cases hr : s.region with
  | none => exact s.meters8_length
  | some ms => exact (h.2.2 ms hr).2

/-- What is being written to the store keeps it safe, however many of its pages are done. -/
theorem State.cellsAfterPages_wf {s : State} (pages : Nat) (h : s.storeSafe) : Memory.wf (s.cellsAfterPages pages) := by
  unfold State.cellsAfterPages
  split
  · exact h.1
  · exact afterSavePages_wf _ _ _ h.1 (Nat.le_of_eq (s.regionMeters_length h))
  · next ms hs =>
    split
    · exact writeBlock_wf 4032 _ h.1 (by
        rw [meterBytes_length]; have := h.2.1 ms hs; simp only [Config.storeSize]; omega)
    · exact h.1

end Sys2Proof.Machine
end

