-- ==== Sys2Proof/Laws/PerInstr.lean ====
section
/-! SUPPORT. What a well-formed command carries, one lemma per command: zone numbers within 1..12, sources that are node
addresses, and payloads that fit a frame. -/

namespace Sys2Proof

open Machine

namespace Instr

/-- The zone number a command carries. -/
def zoneOperand : Instr → Option Nat
  | .staleTimerExpiry z | .overrideExpiry z | .overrideMinuteCount z | .travelTimeout z => some z
  | _ => none

/-- The node address a command's frame comes from, where the command is of a frame from a node. -/
def sourceOperand : Instr → Option Byte
  | .zoneReport src _ => some src
  | .setZone src _ _ | .readZone src _ _ | .readStatus src _ _ | .readField src _ _ | .writeField src _ _
  | .readMeter src _ _ | .readFaults src _ _ | .clearLockout src _ _ | .saveConfig src _ _ | .restart src _ _ => some src
  | .malformedRequest src _ _ _ => some src
  | .proxyFrame f | .forwardedReply f => some f.src
  | .accept _ src _ _ | .refuse _ src _ _ | .indoorReply _ src _ _ | .outdoorReply _ src _ _ | .damperReply _ src _ _ =>
    some src
  | _ => none

/-- The payload a command's frame carries. -/
def payloadOperand : Instr → Option (List Byte)
  | .roomFrameIgnored f | .proxyFrame f | .plantFrameDiscard f | .forwardedReply f => some f.payload
  | .zoneReport _ p => some p
  | .setZone _ _ p | .readZone _ _ p | .readStatus _ _ p | .readField _ _ p | .writeField _ _ p
  | .readMeter _ _ p | .readFaults _ _ p | .clearLockout _ _ p | .saveConfig _ _ p | .restart _ _ p => some p
  | .malformedRequest _ _ _ p => some p
  | .accept _ _ _ p | .refuse _ _ _ p | .indoorReply _ _ _ p | .outdoorReply _ _ _ p | .damperReply _ _ _ p => some p
  | _ => none

end Instr

namespace Laws.OperandRange

/-- A well-formed command's zone is one of 1..12, its source a node address (R156) and its payload at most 48 bytes
(R153). -/
def Statement (i : Instr) : Prop :=
  i.wellFormed = true →
    (∀ z, i.zoneOperand = some z → 1 ≤ z ∧ z ≤ 12) ∧ (∀ a, i.sourceOperand = some a → 1 ≤ a.toNat ∧ a.toNat ≤ 63)
    ∧ ∀ p, i.payloadOperand = some p → p.length ≤ 48

/-- A payload that passes a request's form check has at most 9 bytes (R174). -/
theorem request_length {kind : Byte} {p : List Byte} (h : wellFormedRequest kind p = true) : p.length ≤ 9 := by
  simp only [wellFormedRequest, Bool.or_eq_true, Bool.and_eq_true, decide_eq_true_eq] at h
  rcases h with ((((((h | h) | h) | h) | h) | h) | h) | h <;> replace h := h.2
  · unfold parseSetZone at h; split at h <;> simp_all
  · unfold parseReadZone at h; split at h <;> simp_all
  · unfold parseReadStatus at h; split at h <;> simp_all
  · unfold parseReadField at h; split at h <;> simp_all
  · unfold parseWriteField at h; split at h <;> simp_all
  · unfold parseReadMeter at h; split at h <;> simp_all
  · unfold parseReadFaults at h; split at h <;> simp_all
  · unfold parseEmpty at h; split at h <;> simp_all

/-- The statement of a request. -/
theorem of_requestOk {src kind : Byte} {p : List Byte} (h : Instr.requestOk src kind p = true) :
    (1 ≤ src.toNat ∧ src.toNat ≤ 63) ∧ p.length ≤ 48 := by
  simp only [Instr.requestOk, Instr.roomNodeOk, Bool.and_eq_true, decide_eq_true_eq] at h
  have := request_length h.2
  exact ⟨h.1, by omega⟩

/-- A payload that fits a frame. -/
theorem of_payloadOk {p : List Byte} (h : Instr.payloadOk p = true) : p.length ≤ 48 := of_decide_eq_true h

/-- A zone number. -/
theorem of_zoneOk {z : Nat} (h : Instr.zoneOk z = true) : 1 ≤ z ∧ z ≤ 12 := by simpa [Instr.zoneOk] using h

/-- A room node's address. -/
theorem of_roomNodeOk {src : Byte} (h : Instr.roomNodeOk src = true) : 1 ≤ src.toNat ∧ src.toNat ≤ 63 := by
  simpa [Instr.roomNodeOk] using h

/-- A room node's address and a payload that fits. -/
theorem of_nodeFrame {src : Byte} {p : List Byte} (h : (Instr.roomNodeOk src && Instr.payloadOk p) = true) :
    (1 ≤ src.toNat ∧ src.toNat ≤ 63) ∧ p.length ≤ 48 :=
  have h := Bool.and_eq_true_iff.1 h
  ⟨of_roomNodeOk h.1, of_payloadOk h.2⟩

/-- A plant frame to the part. -/
theorem of_plantReplyOk {dst src : Byte} {p : List Byte} (h : Instr.plantReplyOk dst src p = true) :
    (1 ≤ src.toNat ∧ src.toNat ≤ 63) ∧ p.length ≤ 48 := by
  simp only [Instr.plantReplyOk, Bool.and_eq_true, decide_eq_true_eq] at h
  exact ⟨⟨h.1.1.2, h.1.2⟩, of_payloadOk h.2⟩

theorem powerOn (pagesWritten : Nat) (storeAnswers storeWp : Bool) :
    Statement (.powerOn pagesWritten storeAnswers storeWp) :=
  fun _ => ⟨nofun, nofun, nofun⟩

theorem loadingEnd : Statement .loadingEnd :=
  fun _ => ⟨nofun, nofun, nofun⟩

theorem roomCrcDrop (bytes : List Byte) : Statement (.roomCrcDrop bytes) :=
  fun _ => ⟨nofun, nofun, nofun⟩

theorem roomFrameIgnored (frame : Frame) : Statement (.roomFrameIgnored frame) :=
  fun h => ⟨nofun, nofun, fun _ e => by cases e; exact of_payloadOk h⟩

theorem zoneReport (src : Byte) (payload : List Byte) : Statement (.zoneReport src payload) :=
  fun h =>
  have h := of_nodeFrame h
  ⟨nofun, fun _ e => by cases e; exact h.1, fun _ e => by cases e; exact h.2⟩

theorem setZone (src seq : Byte) (payload : List Byte) : Statement (.setZone src seq payload) := fun h =>
  have h := of_requestOk h
  ⟨nofun, fun _ e => by cases e; exact h.1, fun _ e => by cases e; exact h.2⟩

theorem readZone (src seq : Byte) (payload : List Byte) : Statement (.readZone src seq payload) := fun h =>
  have h := of_requestOk h
  ⟨nofun, fun _ e => by cases e; exact h.1, fun _ e => by cases e; exact h.2⟩

theorem readStatus (src seq : Byte) (payload : List Byte) : Statement (.readStatus src seq payload) := fun h =>
  have h := of_requestOk h
  ⟨nofun, fun _ e => by cases e; exact h.1, fun _ e => by cases e; exact h.2⟩

theorem readField (src seq : Byte) (payload : List Byte) : Statement (.readField src seq payload) := fun h =>
  have h := of_requestOk h
  ⟨nofun, fun _ e => by cases e; exact h.1, fun _ e => by cases e; exact h.2⟩

theorem writeField (src seq : Byte) (payload : List Byte) : Statement (.writeField src seq payload) := fun h =>
  have h := of_requestOk h
  ⟨nofun, fun _ e => by cases e; exact h.1, fun _ e => by cases e; exact h.2⟩

theorem readMeter (src seq : Byte) (payload : List Byte) : Statement (.readMeter src seq payload) := fun h =>
  have h := of_requestOk h
  ⟨nofun, fun _ e => by cases e; exact h.1, fun _ e => by cases e; exact h.2⟩

theorem readFaults (src seq : Byte) (payload : List Byte) : Statement (.readFaults src seq payload) := fun h =>
  have h := of_requestOk h
  ⟨nofun, fun _ e => by cases e; exact h.1, fun _ e => by cases e; exact h.2⟩

theorem clearLockout (src seq : Byte) (payload : List Byte) : Statement (.clearLockout src seq payload) := fun h =>
  have h := of_requestOk h
  ⟨nofun, fun _ e => by cases e; exact h.1, fun _ e => by cases e; exact h.2⟩

theorem saveConfig (src seq : Byte) (payload : List Byte) : Statement (.saveConfig src seq payload) := fun h =>
  have h := of_requestOk h
  ⟨nofun, fun _ e => by cases e; exact h.1, fun _ e => by cases e; exact h.2⟩

theorem restart (src seq : Byte) (payload : List Byte) : Statement (.restart src seq payload) := fun h =>
  have h := of_requestOk h
  ⟨nofun, fun _ e => by cases e; exact h.1, fun _ e => by cases e; exact h.2⟩

theorem malformedRequest (src kind seq : Byte) (payload : List Byte) :
    Statement (.malformedRequest src kind seq payload) :=
  fun h =>
  have h := Bool.and_eq_true_iff.1 h
  have r := Bool.and_eq_true_iff.1 (Bool.and_eq_true_iff.1 h.1).1
  ⟨nofun, fun _ e => by cases e; exact of_roomNodeOk r.1, fun _ e => by cases e; exact of_payloadOk h.2⟩

theorem proxyFrame (frame : Frame) : Statement (.proxyFrame frame) :=
  fun h =>
  have h := Bool.and_eq_true_iff.1 h
  have r := Bool.and_eq_true_iff.1 (Bool.and_eq_true_iff.1 h.1).1
  ⟨nofun, fun _ e => by cases e; exact of_roomNodeOk r.1, fun _ e => by cases e; exact of_payloadOk h.2⟩

theorem passTimerExpiry : Statement .passTimerExpiry :=
  fun _ => ⟨nofun, nofun, nofun⟩

theorem changeoverLockoutExpiry : Statement .changeoverLockoutExpiry :=
  fun _ => ⟨nofun, nofun, nofun⟩

theorem staleTimerExpiry (zone : Nat) : Statement (.staleTimerExpiry zone) :=
  fun h => ⟨fun _ e => by cases e; exact of_zoneOk h, nofun, nofun⟩

theorem overrideExpiry (zone : Nat) : Statement (.overrideExpiry zone) :=
  fun h => ⟨fun _ e => by cases e; exact of_zoneOk h, nofun, nofun⟩

theorem quietEntryTimerExpiry : Statement .quietEntryTimerExpiry :=
  fun _ => ⟨nofun, nofun, nofun⟩

theorem uptimeMinute : Statement .uptimeMinute :=
  fun _ => ⟨nofun, nofun, nofun⟩

theorem minRunExpiry : Statement .minRunExpiry :=
  fun _ => ⟨nofun, nofun, nofun⟩

theorem minOffExpiry : Statement .minOffExpiry :=
  fun _ => ⟨nofun, nofun, nofun⟩

theorem equalizeExpiry : Statement .equalizeExpiry :=
  fun _ => ⟨nofun, nofun, nofun⟩

theorem overrunExpiry : Statement .overrunExpiry :=
  fun _ => ⟨nofun, nofun, nofun⟩

theorem coldDraftHoldExpiry : Statement .coldDraftHoldExpiry :=
  fun _ => ⟨nofun, nofun, nofun⟩

theorem coilFreezeTimerExpiry : Statement .coilFreezeTimerExpiry :=
  fun _ => ⟨nofun, nofun, nofun⟩

theorem lockoutTimeExpiry (cause : LockoutCause) : Statement (.lockoutTimeExpiry cause) :=
  fun _ => ⟨nofun, nofun, nofun⟩

theorem defrostPauseExpiry : Statement .defrostPauseExpiry :=
  fun _ => ⟨nofun, nofun, nofun⟩

theorem defrostMaxExpiry : Statement .defrostMaxExpiry :=
  fun _ => ⟨nofun, nofun, nofun⟩

theorem slotGrant : Statement .slotGrant :=
  fun _ => ⟨nofun, nofun, nofun⟩

theorem replyWindowExpiry : Statement .replyWindowExpiry :=
  fun _ => ⟨nofun, nofun, nofun⟩

theorem plantCrcDrop (bytes : List Byte) : Statement (.plantCrcDrop bytes) :=
  fun _ => ⟨nofun, nofun, nofun⟩

theorem plantFrameDiscard (frame : Frame) : Statement (.plantFrameDiscard frame) :=
  fun h => ⟨nofun, nofun, fun _ e => by cases e; exact of_payloadOk h⟩

theorem accept (dst src seq : Byte) (payload : List Byte) : Statement (.accept dst src seq payload) :=
  fun h =>
  have h := of_plantReplyOk h
  ⟨nofun, fun _ e => by cases e; exact h.1, fun _ e => by cases e; exact h.2⟩

theorem refuse (dst src seq : Byte) (payload : List Byte) : Statement (.refuse dst src seq payload) :=
  fun h =>
  have h := of_plantReplyOk h
  ⟨nofun, fun _ e => by cases e; exact h.1, fun _ e => by cases e; exact h.2⟩

theorem forwardedReply (frame : Frame) : Statement (.forwardedReply frame) :=
  fun h =>
  have h := of_plantReplyOk h
  ⟨nofun, fun _ e => by cases e; exact h.1, fun _ e => by cases e; exact h.2⟩

theorem indoorReply (dst src seq : Byte) (payload : List Byte) : Statement (.indoorReply dst src seq payload) :=
  fun h =>
  have h := of_plantReplyOk h
  ⟨nofun, fun _ e => by cases e; exact h.1, fun _ e => by cases e; exact h.2⟩

theorem outdoorReply (dst src seq : Byte) (payload : List Byte) : Statement (.outdoorReply dst src seq payload) :=
  fun h =>
  have h := of_plantReplyOk h
  ⟨nofun, fun _ e => by cases e; exact h.1, fun _ e => by cases e; exact h.2⟩

theorem damperReply (dst src seq : Byte) (payload : List Byte) : Statement (.damperReply dst src seq payload) :=
  fun h =>
  have h := of_plantReplyOk h
  ⟨nofun, fun _ e => by cases e; exact h.1, fun _ e => by cases e; exact h.2⟩

theorem travelTimeout (zone : Nat) : Statement (.travelTimeout zone) :=
  fun h => ⟨fun _ e => by cases e; exact of_zoneOk h, nofun, nofun⟩

theorem rampTimeout : Statement .rampTimeout :=
  fun _ => ⟨nofun, nofun, nofun⟩

theorem valveTimeout : Statement .valveTimeout :=
  fun _ => ⟨nofun, nofun, nofun⟩

theorem pollRoundDue : Statement .pollRoundDue :=
  fun _ => ⟨nofun, nofun, nofun⟩

theorem discardTimerExpiry (slot : Nat) : Statement (.discardTimerExpiry slot) :=
  fun _ => ⟨nofun, nofun, nofun⟩

theorem periodTimerExpiry : Statement .periodTimerExpiry :=
  fun _ => ⟨nofun, nofun, nofun⟩

theorem holdoffTimerExpiry : Statement .holdoffTimerExpiry :=
  fun _ => ⟨nofun, nofun, nofun⟩

theorem saveComplete : Statement .saveComplete :=
  fun _ => ⟨nofun, nofun, nofun⟩

theorem meterWriteComplete : Statement .meterWriteComplete :=
  fun _ => ⟨nofun, nofun, nofun⟩

theorem storePageFail (page : Nat) : Statement (.storePageFail page) :=
  fun _ => ⟨nofun, nofun, nofun⟩

theorem overrideMinuteCount (zone : Nat) : Statement (.overrideMinuteCount zone) :=
  fun h => ⟨fun _ e => by cases e; exact of_zoneOk h, nofun, nofun⟩

theorem readingAgeCount : Statement .readingAgeCount :=
  fun _ => ⟨nofun, nofun, nofun⟩

end Laws.OperandRange

end Sys2Proof
end

