-- ==== Sys2Proof/Laws/Tab.lean ====
section
/-! SUPPORT. Reading a table after each way of making one. -/

namespace Sys2Proof.Tab

variable {n : Nat} {α β : Type}

theorem get_eq (t : Tab n α) (i : Fin n) : t.get i = t.data[i.val]'(by rw [t.len]; exact i.2) := rfl

theorem ext_get {t u : Tab n α} (h : ∀ i, t.get i = u.get i) : t = u := by
  obtain ⟨xs, hx⟩ := t
  obtain ⟨ys, hy⟩ := u
  have : xs = ys := by
    apply List.ext_getElem (by omega)
    intro i h1 h2
    have := h ⟨i, by omega⟩
    simpa only [get_eq] using this
  subst this; rfl

@[simp] theorem get_set_self (t : Tab n α) (i : Fin n) (a : α) : (t.set i a).get i = a := by
  simp only [get_eq, Tab.set, List.getElem_set_self]

theorem get_set_ne (t : Tab n α) {i j : Fin n} (a : α) (h : i ≠ j) : (t.set i a).get j = t.get j := by
  have : (i : Nat) ≠ j := fun e => h (Fin.ext e)
  simp only [get_eq, Tab.set, List.getElem_set, if_neg this]

theorem get_set (t : Tab n α) (i j : Fin n) (a : α) : (t.set i a).get j = if i = j then a else t.get j := by
  split
  · next h => subst h; exact get_set_self t i a
  · next h => exact get_set_ne t a h

@[simp] theorem get_modify_self (t : Tab n α) (i : Fin n) (f : α → α) : (t.modify i f).get i = f (t.get i) := by
  simp [Tab.modify]

theorem get_modify (t : Tab n α) (i j : Fin n) (f : α → α) :
    (t.modify i f).get j = if i = j then f (t.get i) else t.get j := get_set t i j _

@[simp] theorem get_ofFn (f : Fin n → α) (i : Fin n) : (Tab.ofFn f).get i = f i := by
  simp only [get_eq, Tab.ofFn, List.getElem_map, List.getElem_finRange, Fin.cast_mk, Fin.eta]

@[simp] theorem get_replicate (a : α) (i : Fin n) : (Tab.replicate n a).get i = a := by
  simp only [get_eq, Tab.replicate, List.getElem_replicate]

@[simp] theorem get_map (t : Tab n α) (f : α → β) (i : Fin n) : (t.map f).get i = f (t.get i) := by
  simp only [get_eq, Tab.map, List.getElem_map]

@[simp] theorem get_mapIdx (t : Tab n α) (f : Fin n → α → β) (i : Fin n) : (t.mapIdx f).get i = f i (t.get i) := by
  simp [Tab.mapIdx]

/-- A field read by its number, counted from 1, is the field at the index one less. -/
theorem nth_eq_get (t : Tab n α) (k : Nat) (d : α) (h : 1 ≤ k ∧ k ≤ n) : t.nth k d = t.get ⟨k - 1, by omega⟩ := by
  have : k - 1 < t.data.length := by rw [t.len]; omega
  simp only [Tab.nth, get_eq, List.getD_eq_getElem?_getD, List.getElem?_eq_getElem this, Option.getD_some]

theorem setNth_eq_set (t : Tab n α) (k : Nat) (a : α) (h : 1 ≤ k ∧ k ≤ n) : t.setNth k a = t.set ⟨k - 1, by omega⟩ a :=
  rfl

theorem nth_setNth (t : Tab n α) (k j : Nat) (a d : α) (hk : 1 ≤ k ∧ k ≤ n) (hj : 1 ≤ j ∧ j ≤ n) :
    (t.setNth k a).nth j d = if k = j then a else t.nth j d := by
  rw [setNth_eq_set t k a hk, nth_eq_get _ j d hj, nth_eq_get _ j d hj, get_set]
  have : (⟨k - 1, by omega⟩ : Fin n) = ⟨j - 1, by omega⟩ ↔ k = j := by
    rw [Fin.ext_iff]; simp only; omega
  by_cases h : k = j
  · rw [if_pos (this.2 h), if_pos h]
  · rw [if_neg (fun e => h (this.1 e)), if_neg h]

theorem num_setNth (t : Tab n Int) (k j : Nat) (a : Int) (hk : 1 ≤ k ∧ k ≤ n) (hj : 1 ≤ j ∧ j ≤ n) :
    (t.setNth k a).num j = if k = j then a else t.num j := nth_setNth t k j a 0 hk hj

end Sys2Proof.Tab
end

