-- ==== Sys2Proof/Laws/PlantBus.lean ====
section
/-! SUPPORT. The Plant Port's shared operations as record updates: a failed actuator, a stalled movement, the slot left
over from a warm restart's clearing, a board's reply to the dampers at its address, and a slot that finds no issuable command. -/

namespace Sys2Proof.Machine

/-- A failure of an actuator (R138, R139): its status, and one fault entry where the status changes. -/
theorem State.fail_eq (s : State) (a : Actuator) (st : ActStatus) (k : FaultKind) (d : Int) :
    s.fail a st k d = { s with
      queue := { s.queue with status := s.queue.status.set a.ix st }
      faults := if s.queue.status.get a.ix = st then s.faults
        else pushFault s.faults ⟨k, a.number, s.uptime, d⟩ } := by
  unfold State.fail
  split <;> simp_all [State.setQueue, State.fault]

/-- A stall (R139 to R141): the entry in flight removed, STALLED, and one fault entry where the status changes. -/
theorem State.stall_eq (s : State) (a : Actuator) (d : Int) :
    s.stall a d = { s with
      queue := { s.queue with
        entries := s.queue.entries.filter fun x => !(x.act = a && x.st ≠ .waiting)
        status := s.queue.status.set a.ix .stalled }
      faults := if s.queue.status.get a.ix = .stalled then s.faults
        else pushFault s.faults ⟨.actuatorStalled, a.number, s.uptime, d⟩ } := by
  unfold State.stall
  rw [State.fail_eq]
  simp [State.setQueue, Queue.removeInFlight]

/-- A slot left over from a warm restart's clearing awaits what it awaited before (R150). -/
@[simp] theorem ExchangeKind.orphan_awaited (w : Awaited) : (ExchangeKind.orphan w).awaited = w := rfl

/-- What answers a command: an empty ACCEPT, or a REFUSE with at most its reason (R135, R160). -/
theorem Awaited.takes_command (kind : Byte) (payload : List Byte) : Awaited.command.takes kind payload = true ↔
    kind = kindAccept ∧ payload = [] ∨ kind = kindRefuse ∧ payload.length ≤ 1 := by
  simp [Awaited.takes]

/-- The end of STOPPING leaves the slot in progress its address, sequence, window and awaited replies (R150). -/
theorem State.endStopping_exchange (s : State) : s.endStopping.port.exchange =
    s.port.exchange.map fun x => { x with what := .orphan x.what.awaited } := rfl

/-- A frame that answers the left-over slot by its header ends it where the slot awaits its kind and length, and changes
nothing else (R135, R150). -/
theorem State.takeForwarded_orphan (s : State) (w : Awaited) (addr : Nat) (seq : Byte) (t : Timer) (kind : Byte)
    (payload : List Byte) : s.takeForwarded ⟨.orphan w, addr, seq, t⟩ kind payload =
      if w.takes kind payload then { s with port := { s.port with exchange := none } } else s := rfl

/-- An answer ends every status but STALLED, and a second one changes nothing (R142). -/
@[simp] theorem ActStatus.answered_answered (st : ActStatus) : st.answered.answered = st.answered := by
  cases st <;> rfl

/-- The dampers of a list have answered: theirs are the statuses that change. -/
theorem Queue.foldl_answered (zs : List (Fin 12)) : ∀ q : Queue,
    zs.foldl (fun q z => q.answered (.damper z)) q = { q with
      status := Tab.ofFn fun i =>
        if ∃ z ∈ zs, Actuator.ix (.damper z) = i then (q.status.get i).answered else q.status.get i } := by
  induction zs with
  | nil =>
    intro q
    have : q.status = Tab.ofFn fun i => q.status.get i := Tab.ext_get fun i => (Tab.get_ofFn _ i).symm
    simpa using congrArg (fun x => { q with status := x }) this
  | cons y ys ih =>
    intro q
    rw [List.foldl_cons, ih]
    show Queue.mk q.entries _ _ _ _ = Queue.mk q.entries _ _ _ _
    congr 1
    refine Tab.ext_get fun i => ?_
    simp only [Tab.get_ofFn, Queue.answered, Tab.get_modify, List.mem_cons, exists_eq_or_imp]
    by_cases hy : Actuator.ix (.damper y) = i
    · subst hy; split <;> simp
    · simp [hy]

/-- A board's reply answers every damper that stands at its address and changes nothing else (R134, R142). -/
theorem State.answerDampers_eq (s : State) (addr : Nat) :
    s.answerDampers addr = { s with queue := { s.queue with
      status := Tab.ofFn fun i =>
        if ∃ z, s.damperAt addr z = true ∧ Actuator.ix (.damper z) = i then (s.queue.status.get i).answered
        else s.queue.status.get i } } := by
  simp only [State.answerDampers, State.setQueue, Queue.foldl_answered, zones12, List.mem_filter, List.mem_finRange,
    true_and]

/-- A slot finds no command where every entry is in flight or waits behind one that is (R133, R144). -/
theorem State.grantCommand_none : ∀ (es : List Entry) (s : State),
    (∀ e ∈ es, e.st ≠ .waiting ∨ s.queue.reserved e.act = true) → s.grantCommand es = (s, false)
  | [], _, _ => rfl
  | e :: es, s, h => by
    rw [State.grantCommand, if_neg, State.grantCommand_none es s fun x hx => h x (by simp [hx])]
    rcases h e (by simp) with h | h <;> simp [h]

end Sys2Proof.Machine
end

