-- ==== Sys2Proof/Laws/Sequencer.lean ====
section
/-! SUPPORT. What the Plant Sequencer's operations can do to the rest of the part, said once: each is a run of changes of
the sequencer's own record, commands handed to the queue, meters counted, faults recorded and a meter write begun. -/

namespace Sys2Proof.Machine

/-- `t` comes from `s` by the moves the sequencer's operations are made of. -/
inductive Reaches (s : State) : State → Prop
  | refl : Reaches s s
  | seq {t : State} (f : Sequencer → Sequencer) : Reaches s t → Reaches s (t.setSeq f)
  | enqueue {t : State} (a : Actuator) (v : Int) (o : Origin) : Reaches s t → Reaches s (t.enqueue a v o)
  | count {t : State} (m : Fin 23) : Reaches s t → Reaches s (t.count m)
  | fault {t : State} (k : FaultKind) (x : Nat) (d : Int) : Reaches s t → Reaches s (t.fault k x d)
  | meterWrite {t : State} : Reaches s t → Reaches s t.beginMeterWrite

namespace Reaches
variable {s t : State}

theorem noteStart (h : Reaches s t) : Reaches s t.noteStart := .count _ (.seq _ h)

theorem noteStop (h : Reaches s t) : Reaches s t.noteStop := .seq _ h

theorem noteCompressor (h : Reaches s t) (v : Int) : Reaches s (t.noteCompressor v) := by
  unfold State.noteCompressor
  split
  · exact h.noteStart
  · split
    · exact h.noteStop.meterWrite
    · exact h

theorem dispatchCompressor (h : Reaches s t) (v : Int) (o : Origin) : Reaches s (t.dispatchCompressor v o) :=
  ((h.noteCompressor v).seq _).enqueue _ _ _

theorem dispatchFan (h : Reaches s t) (v : Int) (o : Origin) : Reaches s (t.dispatchFan v o) :=
  (h.seq _).enqueue _ _ _

theorem dispatchValve (h : Reaches s t) (d : Side) : Reaches s (t.dispatchValve d) := (h.seq _).enqueue _ _ _

theorem dispatchDefrost (h : Reaches s t) (v : Int) : Reaches s (t.dispatchDefrost v) := (h.seq _).enqueue _ _ _

theorem defrostOff (h : Reaches s t) : Reaches s t.defrostOff := by
  unfold State.defrostOff
  split
  · exact h.dispatchDefrost 0
  · exact h

theorem dispatchDamper (h : Reaches s t) (r : PassResult) (z : Fin 12) : Reaches s (t.dispatchDamper r z) := by
  unfold State.dispatchDamper
  split
  · split
    · exact h.enqueue _ _ _
    · exact h
  · exact h

theorem foldl {α : Type} {f : State → α → State} (hf : ∀ {t : State} (a : α), Reaches s t → Reaches s (f t a)) :
    ∀ (l : List α) {t : State}, Reaches s t → Reaches s (l.foldl f t)
  | [], _, h => h
  | a :: l, _, h => foldl hf l (hf a h)

theorem dispatchDampers (h : Reaches s t) (r : PassResult) : Reaches s (t.dispatchDampers r) :=
  foldl (fun z h => h.dispatchDamper r z) _ h

theorem carryIdle (h : Reaches s t) (r : PassResult) : Reaches s (t.carryIdle r) :=
  ((h.seq _).dispatchDampers r).dispatchFan _ _

theorem carryIdleStopped (h : Reaches s t) (r : PassResult) : Reaches s (t.carryIdleStopped r) :=
  ((h.seq _).dispatchFan _ _).dispatchDampers r

theorem beginRun (h : Reaches s t) (r : PassResult) : Reaches s (t.beginRun r) := by
  unfold State.beginRun; exact h.seq _

theorem startPlant (h : Reaches s t) (r : PassResult) : Reaches s (t.startPlant r) := by
  unfold State.startPlant
  dsimp only
  apply dispatchCompressor
  split
  · exact h.dispatchFan _ _
  · exact h.dispatchFan _ _

theorem start (h : Reaches s t) (r : PassResult) : Reaches s (t.start r) :=
  ((h.beginRun r).dispatchDampers r).startPlant r

theorem clearFailure (h : Reaches s t) : Reaches s t.clearFailure := h.seq _

theorem startTest (h : Reaches s t) (r : PassResult) : Reaches s (t.startTest r) := by
  unfold State.startTest
  split
  · split
    · exact h.seq _
    · exact h.start r
  · dsimp only
    split
    · split
      · exact (h.seq _).dispatchValve _
      · exact h.seq _
    · exact h.seq _

theorem takeAsIdle (h : Reaches s t) (r : PassResult) : Reaches s (t.takeAsIdle r) := by
  unfold State.takeAsIdle
  split
  · dsimp only
    split
    · exact (h.clearFailure.startTest r).dispatchFan _ _
    · exact h.clearFailure.startTest r
  · exact h.carryIdle r

theorem idleTakesNewest (h : Reaches s t) : Reaches s t.idleTakesNewest := by
  unfold State.idleTakesNewest
  dsimp only
  split
  · exact (h.seq _).takeAsIdle _
  · exact (h.seq _).dispatchFan _ _

theorem equalizeDone (h : Reaches s t) : Reaches s t.equalizeDone := by
  unfold State.equalizeDone
  dsimp only
  split
  · split
    · exact (h.seq _).dispatchValve _
    · exact h.seq _
  · exact h.seq _

theorem takeAtOverrun (h : Reaches s t) (r : PassResult) : Reaches s (t.takeAtOverrun r) := by
  have h := h.clearFailure
  unfold State.takeAtOverrun
  dsimp only
  split
  · exact (((h.beginRun r).dispatchDampers r).dispatchFan _ _).startPlant r
  · split
    · exact (h.dispatchFan _ _).seq _
    · split
      · exact (h.dispatchFan _ _).seq _
      · exact ((h.dispatchFan _ _).seq _).equalizeDone

theorem overrunEnd (h : Reaches s t) : Reaches s t.overrunEnd := by
  unfold State.overrunEnd
  split
  · exact h.idleTakesNewest
  · split
    · exact h.takeAtOverrun _
    · exact h.carryIdle _

theorem endStopped (h : Reaches s t) : Reaches s t.endStopped := by
  unfold State.endStopped
  split
  · exact h.idleTakesNewest
  · split
    · exact h.takeAtOverrun _
    · exact h.carryIdleStopped _

theorem stopRun (h : Reaches s t) : Reaches s t.stopRun := by
  unfold State.stopRun
  dsimp only
  split
  · exact ((h.dispatchCompressor _ _).dispatchFan _ _).seq _
  · exact ((h.dispatchCompressor _ _).seq _).endStopped

theorem leaveRun (h : Reaches s t) : Reaches s t.leaveRun := by
  unfold State.leaveRun
  split
  · dsimp only
    split
    · exact (h.seq _).dispatchCompressor _ _
    · exact h.seq _
  · exact h.stopRun

theorem adjustLimit (h : Reaches s t) : Reaches s t.adjustLimit := by
  unfold State.adjustLimit
  exact h.seq _

theorem runFan (h : Reaches s t) (r : PassResult) : Reaches s (t.runFan r) := by
  unfold State.runFan
  split
  · exact h
  · exact h.dispatchFan _ _

theorem continueRun (h : Reaches s t) (r : PassResult) : Reaches s (t.continueRun r) := h.seq _

theorem runPlant (h : Reaches s t) (r : PassResult) : Reaches s (t.runPlant r) := (h.dispatchCompressor _ _).runFan r

theorem carryRun (h : Reaches s t) (r : PassResult) : Reaches s (t.carryRun r) := by
  unfold State.carryRun
  dsimp only
  split
  · exact ((h.continueRun r).runPlant r).dispatchDampers r
  · exact (((h.continueRun r).dispatchDampers r).runFan r).dispatchCompressor _ _

theorem takeInRun (h : Reaches s t) (r : PassResult) : Reaches s (t.takeInRun r) := by
  unfold State.takeInRun
  dsimp only
  split
  · exact h.adjustLimit.carryRun r
  · exact h.adjustLimit.leaveRun

theorem hardLockout (h : Reaches s t) : Reaches s t.hardLockout := ((h.seq _).dispatchFan _ _).fault _ _ _

theorem noteHistory (h : Reaches s t) : Reaches s t.noteHistory := by
  unfold State.noteHistory
  dsimp only
  split
  · exact (h.seq _).hardLockout
  · exact h.seq _

theorem recordInHard (h : Reaches s t) (c : LockoutCause) (d : Int) : Reaches s (t.recordInHard c d) := by
  unfold State.recordInHard
  split
  · split
    · exact h
    · exact (h.seq _).fault _ _ _
  · split
    · exact h
    · exact (h.seq _).fault _ _ _
  · exact h.fault _ _ _

theorem stopForCause (h : Reaches s t) : Reaches s t.stopForCause := by
  unfold State.stopForCause
  split
  · exact h.dispatchCompressor _ _
  · exact h

theorem enterLockout (h : Reaches s t) (c : LockoutCause) (d : Int) : Reaches s (t.enterLockout c d) := by
  have h1 := ((((h.stopForCause).seq fun q => { q.endHolds.abortDefrost with overrun := .stopped }).seq fun q =>
    { q with causes := q.causes.add ((t.stopForCause.setSeq fun q =>
      { q.endHolds.abortDefrost with overrun := .stopped }).timer (secs (t.stopForCause.setSeq fun q =>
        { q.endHolds.abortDefrost with overrun := .stopped }).tables.plant.lockoutTime)) c, displayed := some c }).defrostOff).seq
    fun q => { q with state := .lockout }
  unfold State.enterLockout
  dsimp only
  split
  · split
    · exact (((h1.dispatchFan _ _).fault _ _ _).count _).noteHistory
    · exact ((h1.fault _ _ _).count _).noteHistory
  · split
    · exact ((h1.dispatchFan _ _).fault _ _ _).count _
    · exact (h1.fault _ _ _).count _

theorem takeCause (h : Reaches s t) (c : LockoutCause) (d : Int) : Reaches s (t.takeCause c d) := by
  unfold State.takeCause
  split
  · exact h.recordInHard c d
  · split
    · exact h
    · exact h.enterLockout c d

theorem endCause (h : Reaches s t) (c : LockoutCause) : Reaches s (t.endCause c) := by
  unfold State.endCause
  split
  · dsimp only
    split
    · split
      · exact (h.seq _).dispatchFan _ _
      · exact h.seq _
    · exact ((h.seq _).seq _).idleTakesNewest
  · exact h

theorem enterDefrost (h : Reaches s t) : Reaches s t.enterDefrost :=
  (((h.dispatchCompressor _ _).dispatchFan _ _).seq _).count _

theorem testDefrost (h : Reaches s t) : Reaches s t.testDefrost := by
  unfold State.testDefrost
  split
  · exact h.enterDefrost
  · exact h

theorem startMelt (h : Reaches s t) : Reaches s t.startMelt := (h.dispatchCompressor _ _).seq _

theorem endMelt (h : Reaches s t) : Reaches s t.endMelt := by
  unfold State.endMelt
  exact ((h.dispatchCompressor _ _).dispatchDefrost _).seq _

theorem leaveForIdle (h : Reaches s t) : Reaches s t.leaveForIdle := (h.seq _).idleTakesNewest

theorem endByShadow (h : Reaches s t) : Reaches s t.endByShadow := by
  unfold State.endByShadow
  split
  · exact (h.dispatchValve _).seq _
  · exact h.leaveForIdle

theorem recoveryTest (h : Reaches s t) : Reaches s t.recoveryTest := by
  unfold State.recoveryTest
  split
  · exact h.seq _
  · split
    · split
      · exact (h.dispatchCompressor _ _).seq _
      · exact h.leaveForIdle
    · exact h.leaveForIdle

theorem endRecovery (h : Reaches s t) : Reaches s t.endRecovery := by
  unfold State.endRecovery
  dsimp only
  split
  · exact (h.seq _).takeInRun _
  · exact h.seq _

theorem endColdDraft (h : Reaches s t) : Reaches s t.endColdDraft := by
  unfold State.endColdDraft
  dsimp only
  split
  · exact (h.seq _).dispatchFan _ _
  · exact h.seq _

theorem valveCompleted (h : Reaches s t) (d : Side) : Reaches s (t.valveCompleted d) := by
  unfold State.valveCompleted
  dsimp only
  split
  · split
    · exact (h.seq _).startTest _
    · exact h.seq _
  · split
    · exact (h.seq _).seq _
    · exact (h.seq _).startMelt
  · exact (h.seq _).recoveryTest
  · exact h.seq _

theorem valveFailed (h : Reaches s t) : Reaches s t.valveFailed := by
  unfold State.valveFailed
  dsimp only
  split
  · exact ((h.seq _).dispatchDefrost _).endByShadow
  · split
    · split
      · exact (h.seq _).seq _
      · exact ((h.seq _).seq _).carryIdle _
    · exact (h.seq _).leaveForIdle
  · exact h.seq _

theorem valveReport (h : Reaches s t) (d : Option Side) : Reaches s (t.valveReport d) := by
  unfold State.valveReport
  split
  · exact h
  · split
    · exact h.valveCompleted _
    · exact h.valveFailed

theorem takeResult (h : Reaches s t) (r : PassResult) : Reaches s (t.takeResult r) := by
  have h0 : Reaches s (t.noteNewest r) := h.seq _
  unfold State.takeResult
  dsimp only
  split
  · exact h0.takeAsIdle r
  · exact h0.takeAsIdle r
  · unfold State.takeInStartWait
    split
    · exact h0.startTest r
    · exact h0.carryIdle r
  · exact h0.takeInRun r
  · exact h0
  · unfold State.takeInEqualize
    split
    · split
      · exact (h0.seq _).startTest r
      · exact h0
    · exact h0.carryIdle r
  · exact h0.seq _
  · exact h0.seq _
  · unfold State.takeInLockout
    split
    · exact (h0.seq _).dispatchDampers r
    · exact h0
  · exact h0

end Reaches

end Sys2Proof.Machine
end

