-- ==== Sys2Proof/Laws/SequencerFrame.lean ====
section
/-! SUPPORT. What a run of the sequencer's moves leaves as it was, and what it keeps: the frame of every operation of
Machine/Sequencer.lean, read off `Reaches` once. -/

namespace Sys2Proof.Machine

variable {s t : State}

/-- A meter write begun changes the saving indication alone. -/
theorem State.beginMeterWrite_eq (s : State) :
    s.beginMeterWrite = s ∨
      (s.store.saving = .idle ∧ s.beginMeterWrite = { s with store := { s.store with saving := .meterWrite s.meters8 } }) := by
  unfold State.beginMeterWrite
  split
  · next h => exact .inr ⟨h.1, rfl⟩
  · exact .inl rfl

namespace Reaches

theorem phase (h : Reaches s t) : t.phase = s.phase := by
  induction h with
  | meterWrite _ ih => rcases State.beginMeterWrite_eq _ with e | ⟨_, e⟩ <;> rw [e] <;> exact ih
  | _ => first | rfl | assumption

theorem clock (h : Reaches s t) : t.clock = s.clock := by
  induction h with
  | meterWrite _ ih => rcases State.beginMeterWrite_eq _ with e | ⟨_, e⟩ <;> rw [e] <;> exact ih
  | _ => first | rfl | assumption

theorem resetAt (h : Reaches s t) : t.resetAt = s.resetAt := by
  induction h with
  | meterWrite _ ih => rcases State.beginMeterWrite_eq _ with e | ⟨_, e⟩ <;> rw [e] <;> exact ih
  | _ => first | rfl | assumption

theorem uptime (h : Reaches s t) : t.uptime = s.uptime := by
  induction h with
  | meterWrite _ ih => rcases State.beginMeterWrite_eq _ with e | ⟨_, e⟩ <;> rw [e] <;> exact ih
  | _ => first | rfl | assumption

theorem tables (h : Reaches s t) : t.tables = s.tables := by
  induction h with
  | meterWrite _ ih => rcases State.beginMeterWrite_eq _ with e | ⟨_, e⟩ <;> rw [e] <;> exact ih
  | _ => first | rfl | assumption

theorem zones (h : Reaches s t) : t.zones = s.zones := by
  induction h with
  | meterWrite _ ih => rcases State.beginMeterWrite_eq _ with e | ⟨_, e⟩ <;> rw [e] <;> exact ih
  | _ => first | rfl | assumption

theorem economy (h : Reaches s t) : t.economy = s.economy := by
  induction h with
  | meterWrite _ ih => rcases State.beginMeterWrite_eq _ with e | ⟨_, e⟩ <;> rw [e] <;> exact ih
  | _ => first | rfl | assumption

theorem quietTimer (h : Reaches s t) : t.quietTimer = s.quietTimer := by
  induction h with
  | meterWrite _ ih => rcases State.beginMeterWrite_eq _ with e | ⟨_, e⟩ <;> rw [e] <;> exact ih
  | _ => first | rfl | assumption

theorem engine (h : Reaches s t) : t.engine = s.engine := by
  induction h with
  | meterWrite _ ih => rcases State.beginMeterWrite_eq _ with e | ⟨_, e⟩ <;> rw [e] <;> exact ih
  | _ => first | rfl | assumption

theorem port (h : Reaches s t) : t.port = s.port := by
  induction h with
  | meterWrite _ ih => rcases State.beginMeterWrite_eq _ with e | ⟨_, e⟩ <;> rw [e] <;> exact ih
  | _ => first | rfl | assumption

theorem room (h : Reaches s t) : t.room = s.room := by
  induction h with
  | meterWrite _ ih => rcases State.beginMeterWrite_eq _ with e | ⟨_, e⟩ <;> rw [e] <;> exact ih
  | _ => first | rfl | assumption

theorem mgmt (h : Reaches s t) : t.mgmt = s.mgmt := by
  induction h with
  | meterWrite _ ih => rcases State.beginMeterWrite_eq _ with e | ⟨_, e⟩ <;> rw [e] <;> exact ih
  | _ => first | rfl | assumption

theorem roomOut (h : Reaches s t) : t.roomOut = s.roomOut := by
  induction h with
  | meterWrite _ ih => rcases State.beginMeterWrite_eq _ with e | ⟨_, e⟩ <;> rw [e] <;> exact ih
  | _ => first | rfl | assumption

theorem plantOut (h : Reaches s t) : t.plantOut = s.plantOut := by
  induction h with
  | meterWrite _ ih => rcases State.beginMeterWrite_eq _ with e | ⟨_, e⟩ <;> rw [e] <;> exact ih
  | _ => first | rfl | assumption

theorem pending (h : Reaches s t) : t.pending = s.pending := by
  induction h with
  | meterWrite _ ih => rcases State.beginMeterWrite_eq _ with e | ⟨_, e⟩ <;> rw [e] <;> exact ih
  | _ => first | rfl | assumption

theorem store_cells (h : Reaches s t) : t.store.cells = s.store.cells := by
  induction h with
  | meterWrite _ ih => rcases State.beginMeterWrite_eq _ with e | ⟨_, e⟩ <;> rw [e] <;> exact ih
  | _ => first | rfl | assumption

theorem store_answers (h : Reaches s t) : t.store.answers = s.store.answers := by
  induction h with
  | meterWrite _ ih => rcases State.beginMeterWrite_eq _ with e | ⟨_, e⟩ <;> rw [e] <;> exact ih
  | _ => first | rfl | assumption

theorem store_wpHigh (h : Reaches s t) : t.store.wpHigh = s.store.wpHigh := by
  induction h with
  | meterWrite _ ih => rcases State.beginMeterWrite_eq _ with e | ⟨_, e⟩ <;> rw [e] <;> exact ih
  | _ => first | rfl | assumption

theorem store_lastMeterWrite (h : Reaches s t) : t.store.lastMeterWrite = s.store.lastMeterWrite := by
  induction h with
  | meterWrite _ ih => rcases State.beginMeterWrite_eq _ with e | ⟨_, e⟩ <;> rw [e] <;> exact ih
  | _ => first | rfl | assumption

theorem store_skipped (h : Reaches s t) : t.store.skipped = s.store.skipped := by
  induction h with
  | meterWrite _ ih => rcases State.beginMeterWrite_eq _ with e | ⟨_, e⟩ <;> rw [e] <;> exact ih
  | _ => first | rfl | assumption

/-- A property of the queue that every command taken keeps is kept. -/
theorem keepsQueue {P : Queue → Prop} (hP : ∀ q a v o, P q → P (Queue.enqueue q a v o)) (h : Reaches s t)
    (hs : P s.queue) : P t.queue := by
  induction h with
  | refl => exact hs
  | enqueue a v o _ ih => exact hP _ a v o ih
  | meterWrite _ ih => rcases State.beginMeterWrite_eq _ with e | ⟨_, e⟩ <;> rw [e] <;> exact ih
  | _ => assumption

/-- A property of the meters that every count keeps is kept. -/
theorem keepsMeters {P : Tab 23 Nat → Prop} (hP : ∀ t m, P t → P (Tab.modify t m fun n => sat32 (n + 1)))
    (h : Reaches s t) (hs : P s.meters) : P t.meters := by
  induction h with
  | refl => exact hs
  | count m _ ih => exact hP _ m ih
  | meterWrite _ ih => rcases State.beginMeterWrite_eq _ with e | ⟨_, e⟩ <;> rw [e] <;> exact ih
  | _ => assumption

/-- A property of the Fault List that every entry keeps is kept. -/
theorem keepsFaults {P : List FaultEntry → Prop} (hP : ∀ fs e, P fs → P (pushFault fs e)) (h : Reaches s t)
    (hs : P s.faults) : P t.faults := by
  induction h with
  | refl => exact hs
  | fault k x d _ ih => exact hP _ _ ih
  | meterWrite _ ih => rcases State.beginMeterWrite_eq _ with e | ⟨_, e⟩ <;> rw [e] <;> exact ih
  | _ => assumption

/-- The saving indication is left, or a meter write has begun where nothing was being written. -/
theorem saving (h : Reaches s t) :
    t.store.saving = s.store.saving ∨ (s.store.saving = .idle ∧ ∃ ms, ms.length ≤ 8 ∧ t.store.saving = .meterWrite ms) := by
  induction h with
  | refl => exact .inl rfl
  | @meterWrite t _ ih =>
    rcases State.beginMeterWrite_eq t with e | ⟨hi, e⟩ <;> rw [e]
    · exact ih
    · rcases ih with ih | ⟨_, ms, _, ih⟩
      · exact .inr ⟨ih ▸ hi, t.meters8, Nat.le_of_eq t.meters8_length, rfl⟩
      · rw [ih] at hi; cases hi
  | _ => assumption

/-- What a save's meter region holds is left, or it is taken during a save, with its eight values. -/
theorem region (h : Reaches s t) :
    t.region = s.region ∨ (s.store.saving = .save ∧ s.region = none ∧ ∃ ms, ms.length = 8 ∧ t.region = some ms) := by
  have saved : ∀ {u : State}, Reaches s u → u.store.saving = .save → s.store.saving = .save := fun hu hs => by
    rcases hu.saving with e | ⟨_, ms, _, e⟩ <;> rw [e] at hs
    · exact hs
    · cases hs
  induction h with
  | refl => exact .inl rfl
  | @count u m hu ih =>
    rcases u.regionAtCount_cases (m.val < 8) with e | ⟨hs, hn, e⟩
    · rw [State.count_region, e]; exact ih
    · refine .inr ⟨saved hu hs, ?_, u.meters8, u.meters8_length, e⟩
      rcases ih with ih | ⟨_, _, ms, _, ih⟩
      · rw [← ih]; exact hn
      · rw [hn] at ih; cases ih
  | meterWrite _ ih => rcases State.beginMeterWrite_eq _ with e | ⟨_, e⟩ <;> rw [e] <;> exact ih
  | _ => assumption

end Reaches

end Sys2Proof.Machine
end

