-- ==== Sys2Proof/Laws/Queue.lean ====
section
/-! SUPPORT. The command queue: what each of its operations does to the entries, and that each keeps at most one WAITING
entry and at most one entry in flight of an actuator (R130). -/

namespace Sys2Proof.Machine.Queue

/-- Entries of one actuator are of different kinds, one WAITING and one in flight. -/
abbrev Apart (x y : Entry) : Prop := x.act = y.act → (x.st = .waiting ↔ y.st ≠ .waiting)

theorem disciplined_filter {q : Queue} (p : Entry → Bool) (h : q.disciplined) :
    (q.entries.filter p).Pairwise Apart := List.Pairwise.filter p h

/-- A change of entries that keeps each one's actuator and whether it waits keeps the discipline. -/
theorem pairwise_map {es : List Entry} (f : Entry → Entry) (ha : ∀ e, (f e).act = e.act)
    (hw : ∀ e, (f e).st = .waiting ↔ e.st = .waiting) (h : es.Pairwise Apart) : (es.map f).Pairwise Apart := by
  rw [List.pairwise_map]
  refine h.imp fun {x y} hxy he => ?_
  rw [ha, ha] at he
  rw [hw, Ne, hw]; exact hxy he

theorem overtake_sub (es : List Entry) (a : Actuator) (v : Int) : ∃ p, overtake es a v = es.filter p := by
  unfold overtake
  split
  · exact ⟨_, rfl⟩
  · exact ⟨fun _ => true, (List.filter_eq_self.2 fun _ _ => rfl).symm⟩

/-- Taking a command keeps the discipline (R131, R132). -/
theorem disciplined_enqueue (q : Queue) (a : Actuator) (v : Int) (o : Origin) (h : q.disciplined) :
    (q.enqueue a v o).disciplined := by
  obtain ⟨p, hp⟩ := overtake_sub q.entries a v
  have h' : (overtake q.entries a v).Pairwise Apart := by rw [hp]; exact disciplined_filter p h
  show List.Pairwise Apart (Queue.enqueue q a v o).entries
  unfold Queue.enqueue
  dsimp only
  split
  · refine pairwise_map _ (fun e => ?_) (fun e => ?_) h'
    · unfold Entry.merge; split <;> rfl
    · unfold Entry.merge
      split
      · next hc => simp [hc.2]
      · rfl
  · next hw =>
    rw [List.pairwise_append]
    refine ⟨h', List.pairwise_singleton _ _, fun x hx y hy => ?_⟩
    rw [List.mem_singleton] at hy
    subst hy
    intro he
    have hx' : x ∈ q.entries := by rw [hp] at hx; exact (List.mem_filter.1 hx).1
    have : x.st ≠ .waiting := by
      intro hs
      apply hw
      unfold Queue.hasWaiting
      rw [List.any_eq_true]
      exact ⟨x, hx', by simp [hs, show x.act = a from he]⟩
    simp [this, Entry.fresh]

theorem disciplined_removeInFlight (q : Queue) (a : Actuator) (h : q.disciplined) : (q.removeInFlight a).disciplined :=
  disciplined_filter _ h

theorem disciplined_removeWaiting (q : Queue) (a : Actuator) (h : q.disciplined) : (q.removeWaiting a).disciplined :=
  disciplined_filter _ h

theorem disciplined_updInFlight (q : Queue) (a : Actuator) (f : Entry → Entry) (ha : ∀ e, (f e).act = e.act)
    (hw : ∀ e, e.st ≠ .waiting → (f e).st ≠ .waiting) (h : q.disciplined) : (q.updInFlight a f).disciplined := by
  refine pairwise_map _ (fun e => ?_) (fun e => ?_) h
  · split
    · exact ha e
    · rfl
  · split
    · next hc => simp [hc.2, hw e hc.2]
    · rfl

theorem disciplined_answered (q : Queue) (a : Actuator) (h : q.disciplined) : (q.answered a).disciplined := h

theorem disciplined_complete (q : Queue) (a : Actuator) (v : Int) (h : q.disciplined) :
    (q.complete a v).disciplined := disciplined_removeInFlight q a h

/-- The entries of the actuator become ISSUED where none was in flight (R133). -/
theorem disciplined_issue (q : Queue) (a : Actuator) (f : Entry → Entry) (ha : ∀ e, (f e).act = e.act)
    (hr : q.reserved a = false) (h : q.disciplined)
    (hf : ∀ e, (f e).st = .waiting ↔ (e.st = .waiting ∧ e.act ≠ a)) :
    (q.entries.map f).Pairwise Apart := by
  have hno : ∀ e ∈ q.entries, e.act = a → e.st = .waiting := by
    intro e he hea
    refine Decidable.byContradiction fun hs => ?_
    unfold Queue.reserved Queue.inFlight at hr
    rw [Option.isSome_eq_false_iff, Option.isNone_iff_eq_none, List.find?_eq_none] at hr
    exact hr e he (by simp [hea, hs])
  rw [List.pairwise_map]
  refine List.Pairwise.imp_of_mem (fun {x y} hx hy hxy he => ?_) h
  rw [ha, ha] at he
  have hxy := hxy he
  simp only [hf, ne_eq]
  simp only [ne_eq] at hxy
  by_cases hxa : x.act = a
  · have h1 := hno x hx hxa
    have h2 := hno y hy (he ▸ hxa)
    simp [h1, h2] at hxy
  · have hya : y.act ≠ a := he ▸ hxa
    simp only [hxa, hya, not_false_eq_true, and_true]
    exact hxy

end Sys2Proof.Machine.Queue
end

