-- ==== Sys2Proof/Laws/Tables.lean ====
section
/-! SUPPORT. The tables: what a stored value does to every field, and that the defaults, a written value, a SET_ZONE part
and a load keep every field in its range, the setpoints apart and the relief list without repeats. -/

namespace Sys2Proof.Machine

theorem fieldExists_iff {t row f : Nat} :
    fieldExists t row f = true ↔ (1 ≤ t ∧ t ≤ 6) ∧ (1 ≤ row ∧ row ≤ tableRows t) ∧ (1 ≤ f ∧ f ≤ tableFields t) := by
  simp [fieldExists]; omega

/-- A field read after a value is stored. -/
theorem Tables.read_store (T : Tables) {t row f t' row' f' : Nat} (v : Int) (h : fieldExists t row f = true)
    (h' : fieldExists t' row' f' = true) :
    (T.store t row f v).read t' row' f' = if t = t' ∧ row = row' ∧ f = f' then v else T.read t' row' f' := by
  obtain ⟨ht, hr, hf⟩ := fieldExists_iff.1 h
  obtain ⟨ht', hr', hf'⟩ := fieldExists_iff.1 h'
  have e : t = 1 ∨ t = 2 ∨ t = 3 ∨ t = 4 ∨ t = 5 ∨ t = 6 := by omega
  have e' : t' = 1 ∨ t' = 2 ∨ t' = 3 ∨ t' = 4 ∨ t' = 5 ∨ t' = 6 := by omega
  rcases e with rfl | rfl | rfl | rfl | rfl | rfl <;> rcases e' with rfl | rfl | rfl | rfl | rfl | rfl <;>
    simp only [tableRows, tableFields] at hr hf hr' hf' <;>
    simp only [Tables.store, Tables.read, Tables.zoneRow, Nat.reduceEqDiff, false_and, if_false, true_and]
  case inl.inl =>
    rw [Tab.nth_setNth _ _ _ _ _ hr hr']
    by_cases hrr : row = row'
    · subst hrr; simp only [if_true, true_and]
      exact Tab.num_setNth _ _ _ _ hf hf'
    · rw [if_neg hrr, if_neg (fun c => hrr c.1)]
  case inr.inl.inr.inl =>
    rw [Tab.num_setNth _ _ _ _ hr hr']
    have : f = f' := by omega
    simp only [this, and_true]
  case inr.inr.inl.inr.inr.inl =>
    rw [Tab.nth_setNth _ _ _ _ _ hr hr']
    by_cases hrr : row = row'
    · subst hrr; simp only [if_true, true_and]
      exact Tab.num_setNth _ _ _ _ hf hf'
    · rw [if_neg hrr, if_neg (fun c => hrr c.1)]
  case inr.inr.inr.inl.inr.inr.inr.inl =>
    rw [Tab.nth_setNth _ _ _ _ _ hr hr']
    by_cases hrr : row = row'
    · subst hrr; simp only [if_true, true_and]
      exact Tab.num_setNth _ _ _ _ hf hf'
    · rw [if_neg hrr, if_neg (fun c => hrr c.1)]
  case inr.inr.inr.inr.inl.inr.inr.inr.inr.inl =>
    rw [Tab.num_setNth _ _ _ _ hf hf']
    have : row = row' := by omega
    simp only [this, true_and]
  case inr.inr.inr.inr.inr.inr.inr.inr.inr.inr =>
    rw [Tab.num_setNth _ _ _ _ hf hf']
    have : row = row' := by omega
    simp only [this, true_and]

/-- Where every range of a list has its ends in order, so has the range picked from it, whatever the number. -/
theorem FieldSpec.ends_getD {l : List FieldSpec} (h : ∀ x ∈ l, x.lo ≤ x.hi) (k : Nat) :
    (l.getD k ⟨0, 0, 0⟩).lo ≤ (l.getD k ⟨0, 0, 0⟩).hi := by
  rw [List.getD_eq_getElem?_getD]
  cases hk : l[k]? with
  | none => simp
  | some x => exact h x (List.mem_of_getElem? hk)

/-- A range has a lower and an upper end. -/
theorem fieldSpec_ends {t row f : Nat} (h : fieldExists t row f = true) :
    (fieldSpec t row f).lo ≤ (fieldSpec t row f).hi := by
  obtain ⟨ht, _, _⟩ := fieldExists_iff.1 h
  refine FieldSpec.ends_getD ?_ (f - 1)
  have e : t = 1 ∨ t = 2 ∨ t = 3 ∨ t = 4 ∨ t = 5 ∨ t = 6 := by omega
  rcases e with rfl | rfl | rfl | rfl | rfl | rfl
  · simp [rowSpecs, zoneSpecs]
  · simp [rowSpecs, reliefSpecs]
  · simp [rowSpecs, filterSpecs]
  · simp [rowSpecs, roleSpecs]
  · simp [rowSpecs, plantSpecs]
  · simp [rowSpecs, reportSpecs]

theorem clamp_mem {lo hi : Int} (h : lo ≤ hi) (x : Int) : lo ≤ clamp lo hi x ∧ clamp lo hi x ≤ hi := by
  unfold clamp; omega

theorem clamp_of_mem {lo hi x : Int} (h : lo ≤ x ∧ x ≤ hi) : clamp lo hi x = x := by
  unfold clamp; omega

/-- Storing a value that fits keeps every field in range. -/
theorem Tables.inRange_store {T : Tables} {t row f : Nat} (v : Int) (h : T.inRange) (he : fieldExists t row f = true) :
    (T.store t row f ((fieldSpec t row f).fit v)).inRange := by
  intro t' row' f' he'
  rw [Tables.read_store T _ he he']
  split
  · next hc =>
    obtain ⟨rfl, rfl, rfl⟩ := hc
    exact clamp_mem (fieldSpec_ends he) v
  · exact h t' row' f' he'

/-! Rows of table 1. -/

/-- A row of table 1 with every field in its range and its setpoints apart. -/
def ZoneRow.safe (r : ZoneRow) : Prop :=
  (∀ f, 1 ≤ f ∧ f ≤ 14 → ∀ row, (fieldSpec 1 row f).lo ≤ r.num f ∧ r.num f ≤ (fieldSpec 1 row f).hi) ∧ r.sh + 20 ≤ r.sc

/-- The range of a field of table 1 does not depend on the row. -/
theorem zoneSpec_row (row row' f : Nat) :
    (fieldSpec 1 row f).lo = (fieldSpec 1 row' f).lo ∧ (fieldSpec 1 row f).hi = (fieldSpec 1 row' f).hi := by
  have ends : ∀ r : Nat, ((fieldSpec 1 r f).lo, (fieldSpec 1 r f).hi)
      = ((zoneSpecs r).map fun x => (x.lo, x.hi)).getD (f - 1) (0, 0) := fun r => by
    simp only [fieldSpec, rowSpecs, List.getD_eq_getElem?_getD, List.getElem?_map]
    cases (zoneSpecs r)[f - 1]? <;> rfl
  have := (ends row).trans (ends row').symm
  exact ⟨congrArg Prod.fst this, congrArg Prod.snd this⟩

theorem Tables.row_safe {T : Tables} (h : T.safe) (z : Fin 12) : ZoneRow.safe (T.zone.get z) := by
  refine ⟨fun f hf row => ?_, h.2.1 z⟩
  have := h.1 1 (z + 1) f (fieldExists_iff.2 ⟨by omega, ⟨by omega, by simp only [tableRows]; omega⟩, hf⟩)
  rw [(zoneSpec_row row (z + 1) f).1, (zoneSpec_row row (z + 1) f).2]
  have e : T.read 1 (z + 1) f = (T.zone.get z).num f := by
    show (T.zone.nth (z + 1) _).num f = _
    rw [Tab.nth_eq_get _ _ _ (by omega)]; rfl
  rw [← e]; exact this

/-- A safe row put in place of another keeps the tables safe. -/
theorem Tables.safe_setRow {T : Tables} (h : T.safe) (z : Fin 12) {r : ZoneRow} (hr : r.safe) :
    Tables.safe { T with zone := T.zone.set z r } := by
  refine ⟨fun t row f he => ?_, fun y => ?_, h.2.2⟩
  · obtain ⟨ht, hrow, hf⟩ := fieldExists_iff.1 he
    by_cases ht1 : t = 1
    · subst ht1
      simp only [tableRows] at hrow
      show _ ≤ ((T.zone.set z r).nth row _).num f ∧ ((T.zone.set z r).nth row _).num f ≤ _
      rw [Tab.nth_eq_get _ _ _ hrow, Tab.get_set]
      split
      · exact hr.1 f hf row
      · have := h.1 1 row f he
        rw [show T.read 1 row f = (T.zone.nth row (Tab.replicate 14 0)).num f from rfl, Tab.nth_eq_get _ _ _ hrow] at this
        exact this
    · have : Tables.read { T with zone := T.zone.set z r } t row f = T.read t row f := by
        have e : t = 2 ∨ t = 3 ∨ t = 4 ∨ t = 5 ∨ t = 6 := by omega
        rcases e with rfl | rfl | rfl | rfl | rfl <;> rfl
      rw [this]; exact h.1 t row f he
  · show ((T.zone.set z r).get y).sh + 20 ≤ ((T.zone.set z r).get y).sc
    rw [Tab.get_set]
    split
    · exact hr.2
    · exact h.2.1 y

/-- A field other than the two setpoints stored in range keeps a row safe. -/
theorem ZoneRow.safe_setNth {r : ZoneRow} (h : r.safe) {k : Nat} (hk : 1 ≤ k ∧ k ≤ 14) {v : Int}
    (hv : (fieldSpec 1 1 k).lo ≤ v ∧ v ≤ (fieldSpec 1 1 k).hi) (h8 : k ≠ 8) (h9 : k ≠ 9) :
    ZoneRow.safe (r.setNth k v) := by
  refine ⟨fun f hf row => ?_, ?_⟩
  · show _ ≤ Tab.num (r.setNth k v) f ∧ Tab.num (r.setNth k v) f ≤ _
    rw [Tab.num_setNth r k f v hk hf]
    split
    · next e =>
      subst e
      rw [(zoneSpec_row row 1 k).1, (zoneSpec_row row 1 k).2]; exact hv
    · exact h.1 f hf row
  · show Tab.num (r.setNth k v) 8 + 20 ≤ Tab.num (r.setNth k v) 9
    rw [Tab.num_setNth r k 8 v hk (by omega), Tab.num_setNth r k 9 v hk (by omega), if_neg h8, if_neg h9]
    exact h.2

/-- The two setpoints stored together, in range and apart, keep a row safe. -/
theorem ZoneRow.safe_setpoints {r r' : ZoneRow} (h : r.safe)
    (h' : ∀ f, 1 ≤ f ∧ f ≤ 14 → f ≠ 8 → f ≠ 9 → r'.num f = r.num f)
    (hs : 50 ≤ r'.sh ∧ r'.sh ≤ 300) (hc : 150 ≤ r'.sc ∧ r'.sc ≤ 350) (hd : r'.sh + 20 ≤ r'.sc) : r'.safe := by
  refine ⟨fun f hf row => ?_, hd⟩
  by_cases h8 : f = 8
  · subst h8; exact hs
  · by_cases h9 : f = 9
    · subst h9; exact hc
    · rw [h' f hf h8 h9]; exact h.1 f hf row

theorem ZoneRow.safe_bounds {r : ZoneRow} (h : r.safe) :
    50 ≤ r.sh ∧ r.sh ≤ 300 ∧ 150 ≤ r.sc ∧ r.sc ≤ 350 ∧ r.sh + 20 ≤ r.sc :=
  have h8 : (50 : Int) ≤ r.sh ∧ r.sh ≤ 300 := h.1 8 (by omega) 1
  have h9 : (150 : Int) ≤ r.sc ∧ r.sc ≤ 350 := h.1 9 (by omega) 1
  ⟨h8.1, h8.2, h9.1, h9.2, h.2⟩

/-- What a heat setpoint written to a safe row leaves in it: the clamped value, the cool setpoint moved to exactly 20 above
where it stood too near, every other field (R3). -/
theorem ZoneRow.writeHeat_spec {r : ZoneRow} (h : r.safe) (v : Int) :
    (r.writeHeat v).1.sh = clamp 50 300 v ∧
    (r.writeHeat v).1.sc = (if clamp 50 300 v + 20 ≤ r.sc then r.sc else clamp 50 300 v + 20) ∧
    (∀ f, 1 ≤ f ∧ f ≤ 14 → f ≠ 8 → f ≠ 9 → (r.writeHeat v).1.num f = r.num f) := by
  have hb := ZoneRow.safe_bounds h
  have hc := clamp_mem (lo := 50) (hi := 300) (by omega) v
  unfold ZoneRow.writeHeat
  generalize clamp 50 300 v = w at *
  dsimp only
  split
  · next hg =>
    refine ⟨?_, ?_, fun f hf h8 h9 => ?_⟩
    · exact (Tab.num_setNth r 8 8 w (by omega) (by omega)).trans (if_pos rfl)
    · rw [if_pos (by omega)]
      exact (Tab.num_setNth r 8 9 w (by omega) (by omega)).trans (if_neg (by omega))
    · exact (Tab.num_setNth r 8 f w (by omega) hf).trans (if_neg (by omega))
  · next hg =>
    have e : clamp 150 350 (w + 20) = w + 20 := clamp_of_mem (by omega)
    rw [e]
    have e2 : min w (w + 20 - 20) = w := by omega
    rw [e2]
    refine ⟨?_, ?_, fun f hf h8 h9 => ?_⟩
    · exact (Tab.num_setNth _ 9 8 _ (by omega) (by omega)).trans
        ((if_neg (by omega)).trans ((Tab.num_setNth r 8 8 w (by omega) (by omega)).trans (if_pos rfl)))
    · rw [if_neg (by omega)]
      exact (Tab.num_setNth _ 9 9 _ (by omega) (by omega)).trans (if_pos rfl)
    · exact (Tab.num_setNth _ 9 f _ (by omega) hf).trans
        ((if_neg (by omega)).trans ((Tab.num_setNth r 8 f w (by omega) hf).trans (if_neg (by omega))))

/-- What a cool setpoint written to a safe row leaves in it (R3). -/
theorem ZoneRow.writeCool_spec {r : ZoneRow} (h : r.safe) (v : Int) :
    (r.writeCool v).1.sc = clamp 150 350 v ∧
    (r.writeCool v).1.sh = (if r.sh + 20 ≤ clamp 150 350 v then r.sh else clamp 150 350 v - 20) ∧
    (∀ f, 1 ≤ f ∧ f ≤ 14 → f ≠ 8 → f ≠ 9 → (r.writeCool v).1.num f = r.num f) := by
  have hb := ZoneRow.safe_bounds h
  have hc := clamp_mem (lo := 150) (hi := 350) (by omega) v
  unfold ZoneRow.writeCool
  generalize clamp 150 350 v = w at *
  dsimp only
  split
  · next hg =>
    refine ⟨?_, ?_, fun f hf h8 h9 => ?_⟩
    · exact (Tab.num_setNth r 9 9 w (by omega) (by omega)).trans (if_pos rfl)
    · rw [if_pos (by omega)]
      exact (Tab.num_setNth r 9 8 w (by omega) (by omega)).trans (if_neg (by omega))
    · exact (Tab.num_setNth r 9 f w (by omega) hf).trans (if_neg (by omega))
  · next hg =>
    have e : clamp 50 300 (w - 20) = w - 20 := clamp_of_mem (by omega)
    rw [e]
    have e2 : max w (w - 20 + 20) = w := by omega
    rw [e2]
    refine ⟨?_, ?_, fun f hf h8 h9 => ?_⟩
    · exact (Tab.num_setNth _ 8 9 _ (by omega) (by omega)).trans
        ((if_neg (by omega)).trans ((Tab.num_setNth r 9 9 w (by omega) (by omega)).trans (if_pos rfl)))
    · rw [if_neg (by omega)]
      exact (Tab.num_setNth _ 8 8 _ (by omega) (by omega)).trans (if_pos rfl)
    · exact (Tab.num_setNth _ 8 f _ (by omega) hf).trans
        ((if_neg (by omega)).trans ((Tab.num_setNth r 9 f w (by omega) hf).trans (if_neg (by omega))))

theorem ZoneRow.safe_writeHeat {r : ZoneRow} (h : r.safe) (v : Int) : (r.writeHeat v).1.safe := by
  obtain ⟨h1, h2, h3⟩ := ZoneRow.writeHeat_spec h v
  have hb := ZoneRow.safe_bounds h
  have hc := clamp_mem (lo := 50) (hi := 300) (by omega) v
  refine ZoneRow.safe_setpoints h h3 ?_ ?_ ?_ <;> split at h2 <;> omega

theorem ZoneRow.safe_writeCool {r : ZoneRow} (h : r.safe) (v : Int) : (r.writeCool v).1.safe := by
  obtain ⟨h1, h2, h3⟩ := ZoneRow.writeCool_spec h v
  have hb := ZoneRow.safe_bounds h
  have hc := clamp_mem (lo := 150) (hi := 350) (by omega) v
  refine ZoneRow.safe_setpoints h h3 ?_ ?_ ?_ <;> split at h2 <;> omega

theorem ZoneRow.safe_writeDry {r : ZoneRow} (h : r.safe) (v : Int) : (r.writeDry v).1.safe :=
  ZoneRow.safe_setNth h (k := 11) (by omega) (clamp_mem (lo := 400) (hi := 700) (by omega) v) (by omega) (by omega)

/-- The setpoint parts of a SET_ZONE keep a row safe (R4). -/
theorem SetZoneArgs.safe_row (a : SetZoneArgs) {r : ZoneRow} (h : r.safe) : (a.row r).1.safe := by
  have hp : ∀ (part : Option Int) (w : ZoneRow → Int → ZoneRow × Bool) (x : ZoneRow × Bool),
      (∀ r : ZoneRow, r.safe → ∀ v, (w r v).1.safe) → x.1.safe → (applyPart part w x).1.safe := by
    intro part w x hw hx
    unfold applyPart
    split
    · exact hw _ hx _
    · exact hx
  exact hp _ _ _ (fun _ h v => ZoneRow.safe_writeDry h v) (hp _ _ _ (fun _ h v => ZoneRow.safe_writeCool h v)
    (hp _ _ _ (fun _ h v => ZoneRow.safe_writeHeat h v) h))

/-! Writes and loads. -/

theorem Tables.zoneRow_eq (T : Tables) {row : Nat} (h : 1 ≤ row ∧ row ≤ 12) :
    T.zoneRow row = T.zone.get ⟨row - 1, by omega⟩ := Tab.nth_eq_get _ _ _ h

/-- A written value keeps the tables safe (R3, R72, R179, R190). -/
theorem Tables.safe_write {T T' : Tables} {t row f : Nat} {v : Int} {b : Bool} (h : T.safe)
    (he : fieldExists t row f = true) (hw : T.write t row f v = some (T', b)) : T'.safe := by
  obtain ⟨ht, hrow, hf⟩ := fieldExists_iff.1 he
  unfold Tables.write at hw
  dsimp only at hw
  split at hw
  · next hc =>
    obtain ⟨rfl, rfl⟩ := hc
    simp only [tableRows] at hrow
    simp only [Option.some.injEq, Prod.mk.injEq] at hw
    rw [← hw.1, Tab.setNth_eq_set _ _ _ hrow]
    exact Tables.safe_setRow h _ (ZoneRow.safe_writeHeat (by rw [Tables.zoneRow_eq T hrow]; exact Tables.row_safe h _) v)
  · split at hw
    · next hc =>
      obtain ⟨rfl, rfl⟩ := hc
      simp only [tableRows] at hrow
      simp only [Option.some.injEq, Prod.mk.injEq] at hw
      rw [← hw.1, Tab.setNth_eq_set _ _ _ hrow]
      exact Tables.safe_setRow h _ (ZoneRow.safe_writeCool (by rw [Tables.zoneRow_eq T hrow]; exact Tables.row_safe h _) v)
    · next h8 h9 =>
      split at hw
      · cases hw
      · next hd =>
        simp only [Option.some.injEq, Prod.mk.injEq] at hw
        rw [← hw.1]
        refine ⟨Tables.inRange_store v h.1 he, fun z => ?_, fun i j hij hi => ?_⟩
        · by_cases ht1 : t = 1
          · subst ht1
            simp only [tableRows] at hrow
            show Tab.num ((T.zone.setNth row _).get z) 8 + 20 ≤ Tab.num ((T.zone.setNth row _).get z) 9
            rw [Tab.setNth_eq_set _ _ _ hrow, Tab.get_set]
            split
            · rw [(Tab.num_setNth (T.zoneRow row) f 8 _ hf (by omega)).trans (if_neg (fun c => h8 ⟨rfl, c⟩)),
                (Tab.num_setNth (T.zoneRow row) f 9 _ hf (by omega)).trans (if_neg (fun c => h9 ⟨rfl, c⟩)),
                Tables.zoneRow_eq T hrow]
              exact h.2.1 _
            · exact h.2.1 z
          · have : (T.store t row f ((fieldSpec t row f).fit v)).zone = T.zone := by
              have e : t = 2 ∨ t = 3 ∨ t = 4 ∨ t = 5 ∨ t = 6 := by omega
              rcases e with rfl | rfl | rfl | rfl | rfl <;> rfl
            rw [this]; exact h.2.1 z
        · by_cases ht2 : t = 2
          · subst ht2
            simp only [tableRows] at hrow
            generalize (fieldSpec 2 row f).fit v = w at *
            have e : (T.store 2 row f w).relief = T.relief.set ⟨row - 1, by omega⟩ w := rfl
            rw [e, Tab.get_set] at hi
            rw [e, Tab.get_set, Tab.get_set]
            have hdup : w ≠ 0 → ∀ k : Fin 12, (k : Nat) + 1 ≠ row → T.relief.get k ≠ w := by
              intro hw0 k hk hkw
              apply hd
              refine ⟨rfl, ?_⟩
              unfold reliefDuplicate
              simp only [ne_eq, hw0, not_false_eq_true, decide_true, Bool.true_and, List.any_eq_true]
              exact ⟨k, List.mem_finRange k, by simp [hk, hkw]⟩
            by_cases h1 : (⟨row - 1, by omega⟩ : Fin 12) = i
            · rw [if_pos h1] at hi ⊢
              have h2 : (⟨row - 1, by omega⟩ : Fin 12) ≠ j := fun e => hij (h1.symm.trans e)
              rw [if_neg h2]
              refine fun e => hdup hi j (fun c => h2 (Fin.ext ?_)) e.symm
              show row - 1 = j.val
              omega
            · rw [if_neg h1] at hi ⊢
              split
              · intro e
                rw [e] at hi
                refine hdup hi i (fun c => h1 (Fin.ext ?_)) e
                show row - 1 = i.val
                omega
              · exact h.2.2 i j hij hi
          · have : (T.store t row f ((fieldSpec t row f).fit v)).relief = T.relief := by
              have e : t = 1 ∨ t = 3 ∨ t = 4 ∨ t = 5 ∨ t = 6 := by omega
              rcases e with rfl | rfl | rfl | rfl | rfl <;> rfl
            rw [this] at hi ⊢; exact h.2.2 i j hij hi

/-- A load keeps the tables safe (R190). -/
theorem loadRecords_safe (st : StoreLoader) (fuel r : Nat) {T : Tables} (n : Nat) (h : T.safe) :
    (loadRecords st fuel r T n).1.safe := by
  induction fuel generalizing r T n with
  | zero => exact h
  | succ fuel ih =>
    unfold loadRecords
    dsimp only
    split
    · exact h
    · split
      · next he =>
        split
        · next T' b hw => exact ih _ _ (Tables.safe_write h he hw)
        · exact ih _ _ h
      · exact ih _ _ h

theorem Tables.default_inRange : Tables.default.inRange := by
  have h : (allFields.all fun x =>
      decide ((fieldSpec x.1 x.2.1 x.2.2).lo ≤ Tables.default.read x.1 x.2.1 x.2.2)
      && decide (Tables.default.read x.1 x.2.1 x.2.2 ≤ (fieldSpec x.1 x.2.1 x.2.2).hi)) = true := by decide +kernel
  intro t row f he
  obtain ⟨ht, hrow, hf⟩ := fieldExists_iff.1 he
  have hm : (t, row, f) ∈ allFields := by
    unfold allFields
    rw [List.mem_flatMap]
    refine ⟨t, ?_, ?_⟩
    · have e : t = 1 ∨ t = 2 ∨ t = 3 ∨ t = 4 ∨ t = 5 ∨ t = 6 := by omega
      rcases e with rfl | rfl | rfl | rfl | rfl | rfl <;> simp
    · rw [List.mem_flatMap]
      refine ⟨row - 1, List.mem_range.2 (by omega), List.mem_map.2 ⟨f - 1, List.mem_range.2 (by omega), ?_⟩⟩
      rw [Nat.sub_add_cancel hrow.1, Nat.sub_add_cancel hf.1]
  have := List.all_eq_true.1 h _ hm
  simpa using this

theorem Tables.default_safe : Tables.default.safe :=
  ⟨Tables.default_inRange,
   (by decide +kernel : ∀ z : Fin 12, (Tables.default.zone.get z).sh + 20 ≤ (Tables.default.zone.get z).sc),
   (by decide +kernel : ∀ i j : Fin 12, i ≠ j → Tables.default.relief.get i ≠ 0 →
      Tables.default.relief.get i ≠ Tables.default.relief.get j)⟩

theorem loadTables_safe (st : StoreLoader) : (loadTables st).1.safe := loadRecords_safe st _ _ _ Tables.default_safe

end Sys2Proof.Machine
end

