-- ==== Sys2Proof/Tests/Slice0.lean ====
section
/-! SUPPORT. Tests: an ill-formed command for each operand check, the manual's worked sequences one event at a time, and for
every statement with hypotheses a concrete state and operands that meet them. -/

namespace Sys2Proof.Tests

-- One theorem at a time: the kernel evaluates each, and many at once exhaust the threads of the check.
set_option Elab.async false

open Sys2Proof Sys2Proof.Machine

/-! Small states. -/

/-- A running part with default tables and every timer of the sequencer stopped. -/
def ready : State := { State.reset with phase := .running, seq := Sequencer.reset }

/-- A value written to a table, where the write is not refused. -/
def put (T : Tables) (t row f : Nat) (v : Int) : Tables := ((T.write t row f v).map Prod.fst).getD T

theorem put_safe {T : Tables} (h : T.safe) {t row f : Nat} {v : Int} (he : fieldExists t row f = true) :
    (put T t row f v).safe := by
  unfold put
  cases hw : T.write t row f v with
  | none => exact h
  | some w => exact Tables.safe_write h he hw

/-- Zone 1 enabled with its sensor at address 9, zone 2 enabled with its console at address 21. -/
def zonedTables : Tables :=
  put (put (put (put Tables.default 1 1 1 1) 1 1 14 9) 1 2 1 1) 1 2 13 21

theorem zonedTables_safe : zonedTables.safe :=
  put_safe (put_safe (put_safe (put_safe Tables.default_safe rfl) rfl) rfl) rfl

def zoned : State := { ready with tables := zonedTables }

def withSeq (s : State) (f : Sequencer → Sequencer) : State := { s with seq := f s.seq }

/-- A change of one zone's record. -/
def withZone (s : State) (z : Fin 12) (f : ZoneRec → ZoneRec) : State := { s with zones := s.zones.modify z f }

/-- A pass result with a damper target of 50 for every zone. -/
def result (mode : Mode) (served : Option Side) (q f : Int) : PassResult :=
  ⟨1, mode, served, q, f, Tab.replicate 12 (some 50), [], false, false, false, false⟩

def heating : PassResult := result .heat (some .heat) 500 60
def cooling : PassResult := result .cool (some .cool) 300 35
def resting : PassResult := result .off none 0 0

/-- A command in flight to address 3. -/
def flying (a : Actuator) (v : Int) (st : EntryState) (retries : Nat) : Entry :=
  ⟨a, v, .sequencer, st, retries, some 3, some 9, .running 5⟩

/-- The part with a queue of these entries. -/
def queued (s : State) (es : List Entry) : State := { s with queue := { s.queue with entries := es } }

/-- The part with an exchange in progress at address 3 with sequence 9. -/
def asking (s : State) (what : ExchangeKind) : State :=
  { s with port := { s.port with exchange := some ⟨what, 3, 9, .running 50⟩ } }

def withRound (s : State) (r : Option Round) : State := { s with port := { s.port with round := r } }

/-- The part with zones 1 and 2, in this plant state and phase, with `r` the newest result and the compressor at `q`. -/
def planted (st : PlantState) (ph : Option DefrostPhase) (r : PassResult) (q : Int) : State := withSeq zoned fun x =>
  { x with
    state := st, phase := ph, newest := some r, cmdQ := q
    shadow := if st = .defrost ∨ st = .recovery then some r else none }

/-! The sequencer's promises as one decision each. -/

def recordSafeB (q : Sequencer) : Bool :=
  @decide q.recordSafe (by unfold Sequencer.recordSafe; infer_instance)

def minOffSafeB (s : State) : Bool :=
  @decide s.minOffSafe (by unfold State.minOffSafe Sequencer.compressing; infer_instance)

theorem recordSafe_of {q : Sequencer} (h : recordSafeB q = true) : q.recordSafe := by simpa [recordSafeB] using h

theorem minOffSafe_of {s : State} (h : minOffSafeB s = true) : s.minOffSafe := by simpa [minOffSafeB] using h

/-- A part of these tables whose record and compressor are of a piece. -/
theorem planted_ready {s : State} (ht : s.tables = zonedTables) (h : recordSafeB s.seq = true ∧ minOffSafeB s = true) :
    s.tables.safe ∧ s.seq.recordSafe ∧ s.minOffSafe := ⟨ht ▸ zonedTables_safe, recordSafe_of h.1, minOffSafe_of h.2⟩

/-- What a command answers, as a state. -/
def after (c : Instr) (s : State) : State :=
  match exec c s with
  | .next t => t
  | _ => s

/-! Operand checks: each refuses an ill-formed command. -/

theorem test_wf_powerOn : Instr.wellFormed (.powerOn 96 true false) = false := by decide
theorem test_wf_roomCrcDrop : Instr.wellFormed (.roomCrcDrop (Frame.bytes ⟨1, 63, 4, 0, [0, 0]⟩)) = false := by
  decide +kernel
theorem test_wf_plantCrcDrop : Instr.wellFormed (.plantCrcDrop (Frame.bytes ⟨1, 3, 0x3E, 0, []⟩)) = false := by
  decide +kernel
theorem test_wf_payload :
    Instr.wellFormed (.roomFrameIgnored ⟨5, 6, 4, 0, List.replicate 49 0⟩) = false
    ∧ Instr.wellFormed (.plantFrameDiscard ⟨5, 6, 4, 0, List.replicate 49 0⟩) = false
    ∧ Instr.wellFormed (.zoneReport 9 (List.replicate 49 0)) = false := by decide +kernel
theorem test_wf_roomNode :
    Instr.wellFormed (.zoneReport 0 [1, 0, 0]) = false ∧ Instr.wellFormed (.readZone 64 0 [1]) = false := by decide +kernel
theorem test_wf_setZone : Instr.wellFormed (.setZone 63 0 [1, 0, 0, 0, 0, 0, 0, 0, 0]) = false := by decide +kernel
theorem test_wf_readZone : Instr.wellFormed (.readZone 63 0 []) = false := by decide +kernel
theorem test_wf_readStatus : Instr.wellFormed (.readStatus 63 0 [9, 0]) = false := by decide +kernel
theorem test_wf_readField : Instr.wellFormed (.readField 63 0 [1, 1]) = false := by decide +kernel
theorem test_wf_writeField : Instr.wellFormed (.writeField 63 0 [1, 1, 1, 0, 0]) = false := by decide +kernel
theorem test_wf_readMeter : Instr.wellFormed (.readMeter 63 0 [0, 2]) = false := by decide +kernel
theorem test_wf_readFaults : Instr.wellFormed (.readFaults 63 0 [16]) = false := by decide +kernel
theorem test_wf_empty :
    Instr.wellFormed (.clearLockout 63 0 [0]) = false ∧ Instr.wellFormed (.saveConfig 63 0 [0]) = false
    ∧ Instr.wellFormed (.restart 63 0 [0]) = false := by decide +kernel
theorem test_wf_malformed :
    Instr.wellFormed (.malformedRequest 63 0x04 0 [0, 0]) = false
    ∧ Instr.wellFormed (.malformedRequest 63 0x01 0 []) = false := by decide +kernel
theorem test_wf_proxy :
    Instr.wellFormed (.proxyFrame ⟨63, 5, 0x20, 0, []⟩) = false
    ∧ Instr.wellFormed (.proxyFrame ⟨127, 5, 0x20, 0, []⟩) = false := by decide +kernel
theorem test_wf_zone :
    Instr.wellFormed (.staleTimerExpiry 0) = false ∧ Instr.wellFormed (.overrideExpiry 13) = false
    ∧ Instr.wellFormed (.travelTimeout 0) = false ∧ Instr.wellFormed (.overrideMinuteCount 13) = false := by decide
theorem test_wf_cause : Instr.wellFormed (.lockoutTimeExpiry .outdoorLost) = false := by decide
theorem test_wf_plantReply :
    Instr.wellFormed (.accept 2 3 0 []) = false ∧ Instr.wellFormed (.refuse 1 0 0 []) = false
    ∧ Instr.wellFormed (.forwardedReply ⟨1, 64, 0x21, 0, []⟩) = false := by decide +kernel
theorem test_wf_slot : Instr.wellFormed (.discardTimerExpiry 4) = false := by decide
theorem test_wf_page : Instr.wellFormed (.storePageFail 95) = false := by decide

/-! The manual's worked sequences. -/

/-- The check value of the CRC with this polynomial and start value, over the ASCII digits 1 to 9. -/
theorem test_crc : crc [0x31, 0x32, 0x33, 0x34, 0x35, 0x36, 0x37, 0x38, 0x39] = 0x29B1#16 := by decide +kernel

/-- 1.6, setpoint separation: 240 written to the heat setpoint of 200/245 moves the cool setpoint to 260. -/
theorem test_separation_write :
    let t := after (.writeField 63 7 [1, 4, 8, 0, 0, 240]) ready
    (t.row 3).sh = 240 ∧ (t.row 3).sc = 260 ∧ t.roomOut = [⟨63, 1, 0x0E, 7, [1, 0, 0, 240, 0, 1, 4]⟩] := by decide +kernel

/-- 1.6, the same sequence's SET_ZONE of 250 and 260 on 210/350 ends at 240/260. -/
theorem test_separation_setZone :
    let s := { ready with tables := put (put ready.tables 1 4 9 350) 1 4 8 210 }
    let t := after (.setZone 63 7 [4, 3, 0, 250, 1, 4, 0, 0, 0]) s
    (t.row 3).sh = 240 ∧ (t.row 3).sc = 260
      ∧ t.roomOut.map Frame.payload = [[1, 0, 240, 1, 4, 2, 38, 0, 0, 0]] := by decide +kernel

/-- 1.6, a sun-side room: the report 247, 600 sets DRY alone. -/
theorem test_report_dry :
    let z := (after (.zoneReport 21 [2, 0, 247, 2, 88]) zoned).zone 1
    z.heat = false ∧ z.cool = false ∧ z.dry = true ∧ z.dryDem = 0 ∧ z.staleTimer = .running 180000 := by decide +kernel

/-- 1.6, a sun-side room: SETBACK clears COOL and keeps DRY. -/
theorem test_setback_keeps_dry :
    let s := withZone zoned 1 fun r =>
      { r with reading := .fresh, temp := 248, humidity := some 580, cool := true, dry := true, acc := 40, dem := 150 }
    let z := (after (.setZone 63 7 [2, 8, 0, 0, 0, 0, 0, 0, 1]) s).zone 1
    z.shEff = 170 ∧ z.scEff = 275 ∧ z.cool = false ∧ z.dry = true ∧ z.acc = 0 ∧ z.dem = 0 := by decide +kernel

/-- The bungalow of 3.9 and 4.8: zones 1 to 5 enabled with weights 6, 3, 4, 4, 2. -/
def bungalow : State :=
  let w : List Int := [6, 3, 4, 4, 2]
  let T := (List.range 5).foldl (fun T i => put (put T 1 (i + 1) 1 1) 1 (i + 1) 3 (w.getD i 1)) Tables.default
  { ready with
    tables := T
    engine := { Engine.reset with served := some .cool, passTimer := .running 0 }
    port := { PlantPort.reset with cache := [⟨3, 0, .outdoor ⟨310, 100, 0, .cool, false, 0, false⟩⟩] } }

/-- A FRESH zone at `t` with its cool setpoint `sc` and, where it calls COOL, its accumulator. -/
def coolZone (t sc : Int) (acc : Option Int) (r : ZoneRec) : ZoneRec :=
  { r with reading := .fresh, temp := t, scEff := sc, cool := acc.isSome, acc := acc.getD 0 }

/-- 3.9, the worked pass: Q 462, F 50 and targets 100, 44, 0, 57, 0. -/
theorem test_worked_pass :
    let s := withZone (withZone (withZone (withZone (withZone bungalow 0 (coolZone 262 240 (some 300)))
      1 (coolZone 251 245 (some 0))) 2 (coolZone 238 240 none)) 3 (coolZone 247 240 (some 100))) 4 (coolZone 229 240 none)
    let s := { s with engine := { s.engine with prevQ := 400, passNumber := 1207 } }
    let t := after .passTimerExpiry s
    t.engine.latest = some ⟨1208, .cool, some .cool, 462, 50,
      ⟨[some 100, some 44, some 0, some 57, some 0, none, none, none, none, none, none, none], rfl⟩, [],
      false, false, false, false⟩
    ∧ [(t.zone 0).acc, (t.zone 0).dem, (t.zone 1).acc, (t.zone 1).dem, (t.zone 3).acc, (t.zone 3).dem]
      = [344, 1000, 12, 312, 114, 464] := by decide +kernel

/-- 4.8, relief on a late morning: zones 5 and 3 from the relief list, zone 1 forced, Q 362 and F 40. -/
theorem test_worked_relief :
    let s := withZone (withZone (withZone (withZone (withZone bungalow 0 (coolZone 239 240 none))
      1 (coolZone 251 245 (some 0))) 2 (coolZone 238 240 none)) 3 (coolZone 236 240 none)) 4 (coolZone 229 240 none)
    let T := put (put (put (put (put s.tables 2 1 1 5) 2 2 1 3) 1 5 5 1) 1 5 6 60) 1 3 5 1
    let t := after .passTimerExpiry { s with tables := T, engine := { s.engine with prevQ := 462 } }
    t.engine.latest = some ⟨1, .cool, some .cool, 362, 40,
      ⟨[some 100, some 44, some 50, some 0, some 60, none, none, none, none, none, none, none], rfl⟩, [4, 2, 0],
      false, false, true, false⟩ := by decide +kernel

/-- R189, R195: the part after reset ends its loading with one broadcast of 42 bytes. -/
theorem test_loading_end :
    let t := after .loadingEnd State.reset
    t.phase = .running ∧ t.roomOut.map (fun f => f.payload.length) = [42] ∧ t.engine.passTimer = .running 30000
      ∧ t.port.round = some ⟨0, 2, []⟩ := by decide +kernel

/-- R132: an ACCEPT of a compressor command with a 0 waiting behind it leaves only the 0. -/
theorem test_accept_overtaken :
    let s := asking (queued ready [flying .compressor 500 .issued 0, Entry.fresh .compressor 0 .sequencer])
      (.command .compressor)
    (after (.accept 1 3 9 []) s).queue.entries = [Entry.fresh .compressor 0 .sequencer] := by decide +kernel

/-- R135, R146: the first grant after loading polls the indoor board at address 2. -/
theorem test_first_grant :
    (after .slotGrant (after .loadingEnd State.reset)).plantOut = [⟨2, 1, 0x20, 0, []⟩] := by decide +kernel

/-- R88, R97: a stop with an overrun time of 0 hands over the compressor, the fan and then the dampers. -/
theorem test_stop_order :
    let s := withSeq { zoned with tables := put zonedTables 5 1 26 0 } fun q =>
      { q with
        state := .run, runSide := some .cool, cmdQ := 300, minRun := .running 7, minRunHold := true
        newest := some (result .fan none 0 35) }
    (after .minRunExpiry s).queue.entries.map (fun e => (e.act, e.value))
      = [(.compressor, 0), (.fan, 35), (.damper 0, 50), (.damper 1, 50)] := by decide +kernel

/-- R88, R98: a start at the overrun's end hands over the dampers, the waiting fan merged with its own, and the compressor. -/
theorem test_overrun_start_order :
    let s := withSeq zoned fun q =>
      { q with state := .overrun, overrun := .running 7, newest := some cooling, valveDir := some .cool, cmdF := 35 }
    (after .overrunExpiry s).queue.entries.map (fun e => (e.act, e.value))
      = [(.damper 0, 50), (.damper 1, 50), (.fan, 35), (.compressor, 300)] := by decide +kernel

/-- R91, R93, R121: a COOL result taken as IDLE after an abandoned defrost waits for equalize, with no failed valve command
since it was taken. -/
theorem test_abandoned_defrost :
    let s := asking (queued (withSeq zoned fun q =>
      { q with
        state := .defrost, phase := some .valveIn, inFlight := some .cool, newest := some cooling, shadow := some cooling
        equalize := .running 7 }) [flying .valve 0 .issued 0]) (.command .valve)
    let t := after (.refuse 1 3 9 []) s
    t.seq.state = .startWait ∧ t.seq.valveFailed = false ∧ t.seq.inFlight = none := by decide +kernel

/-- R192: a save stores the meters as they stood when the write of the meter region began. -/
theorem test_save_meters :
    let s := { ready with
      meters := Tab.replicate 23 9, store := { ready.store with saving := .save }, region := some [1, 2, 3, 4, 5, 6, 7, 8] }
    storedMeters (after .saveComplete s).store = [1, 2, 3, 4, 5, 6, 7, 8] := by decide +kernel

/-- R134, R142: a reply of the indoor board ends UNRESPONSIVE of a damper whose address falls on the board's, and of no
other. -/
theorem test_board_reply_answers_damper :
    let s := asking (withRound { zoned with tables := put zonedTables 5 1 45 17 } (some ⟨0, 3, []⟩)) (.poll 0)
    let s := { s with
      port := { s.port with exchange := some ⟨.poll 0, 17, 9, .running 50⟩ }
      queue := { s.queue with status := (s.queue.status.set 1 .unresponsive).set 2 .unresponsive } }
    let t := after (.indoorReply 1 17 9 [0, 200, 0, 200, 0, 200, 0, 0]) s
    t.queue.status.get 1 = .ready ∧ t.queue.status.get 2 = .unresponsive ∧ t.queue.status.get 12 = .ready := by
  decide +kernel

/-- R135, R150: the slot that a warm restart's clearing leaves over listens on past a reply of another kind or length and
ends at the one that answers its frame. -/
theorem test_left_over_slot_listens_on :
    let s := (asking (queued ready [flying .fan 35 .issued 0]) (.command .fan)).endStopping
    let open_ := some (⟨.orphan .command, 3, 9, .running 50⟩ : Exchange)
    s.port.exchange = open_ ∧ (after (.damperReply 1 3 9 [50, 0]) s).port.exchange = open_
      ∧ (after (.accept 1 3 9 [0]) s).port.exchange = open_ ∧ (after (.accept 1 3 9 []) s).port.exchange = none := by
  decide +kernel

/-! Witnesses: the hypotheses of each statement, met together. -/

theorem test_witness_StepRunsTheFrontCommand :
    ({ ready with pending := [.slotGrant, .readingAgeCount] } : State).pending = .slotGrant :: [.readingAgeCount] := rfl

theorem test_witness_EmptyQueueTicks : State.reset.pending = [] := rfl

/-- The longest payload. -/
theorem test_witness_FrameReadBack :
    (Frame.mk 1 63 0x06 255 (List.replicate 48 0xAA)).payload.length ≤ 48 := by decide

/-- A request and the longest report. -/
theorem test_witness_RoomFrameIsItsCommand :
    (Instr.request? (.readStatus 63 200 [8, 31]) = some (63, 0x04, 200, [8, 31])
      ∧ Instr.wellFormed (.readStatus 63 200 [8, 31]) = true ∧ (63 : Byte) ≠ ready.ownAddress)
    ∧ Instr.wellFormed (.zoneReport 2 (List.replicate 48 0)) = true ∧ (2 : Byte) ≠ ready.ownAddress := by decide +kernel

theorem test_witness_DroppedFrames : ∀ f : Frame, f.payload.length ≤ 48 → [0x01] ≠ Frame.bytes f := by
  intro f _ h
  have := congrArg List.length h
  simp [Frame.bytes, Frame.body] at this

theorem test_witness_LoadingEndStartsThePart :
    (State.reset.phase = .loading ∧ State.reset.economy = .active ∧ (∀ z, (State.reset.row z).enabled = false)
      ∧ State.reset.tables.report.onChange = false)
    ∧ (let s := { State.reset with tables := put zonedTables 6 1 1 1, store := { State.reset.store with skipped := 3 } }
       s.phase = .loading ∧ s.economy = .active ∧ (s.row 0).enabled = true ∧ s.tables.report.onChange = true
         ∧ s.store.skipped > 0) := by
  decide +kernel

theorem test_witness_SavedTablesLoadAgain :
    let s := { zoned with store := { zoned.store with saving := .save } }
    let begun := { s with region := some [1, 2, 3, 4, 5, 6, 7, 4294967295] }
    let ok (s : State) : Prop :=
      let ms := s.region.getD (s.meters.data.take 8)
      s.store.saving = .save ∧ s.store.answers = true ∧ ms.length = 8 ∧ (∀ m ∈ ms, m ≤ 4294967295)
        ∧ ∃ m ∈ ms, m ≠ 4294967295
    s.tables.safe ∧ ok s ∧ begun.tables.safe ∧ ok begun :=
  ⟨zonedTables_safe, by decide +kernel, zonedTables_safe, by decide +kernel⟩

/-- Addresses 2988, 4031, 4064 and the first byte of page 94 are left alone. -/
theorem test_witness_StoreWritesEnd :
    let s := { ready with store := { ready.store with saving := .save } }
    let m := { ready with store := { ready.store with saving := .meterWrite [0, 1, 2, 3, 4, 5, 6, 7] } }
    s.store.saving = .save ∧ (s.region.getD (s.meters.data.take 8)).length = 8 ∧ (2988 ≤ 2988 ∧ 2988 < 4032 ∨ 4064 ≤ 2988)
      ∧ (2988 ≤ 4064 ∧ 4064 < 4032 ∨ 4064 ≤ 4064)
      ∧ (m.store.saving = .meterWrite [0, 1, 2, 3, 4, 5, 6, 7] ∧ [0, 1, 2, 3, 4, 5, 6, 7].length = 8)
      ∧ (4031 < 4032 ∨ 4064 ≤ 4031) ∧ (94 < 95 ∧ 32 * 94 ≤ 3008) := by decide +kernel

/-- ACTIVE; QUIET with a report that latches COOL; QUIET with one that latches nothing. -/
theorem test_witness_ZoneReportIsTaken :
    (zoned.phase = .running ∧ zoned.fromRoomNode 9 = true ∧ (zoned.row 0).enabled = true
      ∧ (if (zoned.row 0).num 14 ≠ 0 then (zoned.row 0).num 14 else (zoned.row 0).num 13) = ((9 : Byte).toNat : Int)
      ∧ (-32768 : Int) ≤ -32768 ∧ (-32768 : Int) ≤ 32767 ∧ (∀ h, some (65535 : Int) = some h → 0 ≤ h ∧ h ≤ 65535)
      ∧ zoned.economy = .active)
    ∧ (let s := { zoned with economy := .quiet }
       s.phase = .running ∧ s.fromRoomNode 21 = true ∧ (s.row 1).enabled = true
         ∧ (if (s.row 1).num 14 ≠ 0 then (s.row 1).num 14 else (s.row 1).num 13) = ((21 : Byte).toNat : Int)
         ∧ latched (s.zone 1) ((after (.zoneReport 21 [2, 1, 4]) s).zone 1) = true
         ∧ latched (s.zone 1) ((after (.zoneReport 21 [2, 0, 220]) s).zone 1) = false) :=
  ⟨⟨by decide +kernel, by decide +kernel, by decide +kernel, by decide +kernel, by decide, by decide,
    fun h e => by cases e; decide, rfl⟩, by decide +kernel⟩

/-- A payload of 4 bytes, zone 0, zone 13, a disabled zone 12 and a wrong source. -/
theorem test_witness_ZoneReportIsDropped :
    zoned.phase = .running ∧ zoned.fromRoomNode 9 = true
    ∧ ([1, 0, 0, 0] : List Byte).length ≠ 3 ∧ ([1, 0, 0, 0] : List Byte).length ≠ 5
    ∧ (([0, 0, 0] : List Byte).headD 0).toNat = 0 ∧ 12 < (([13, 0, 0] : List Byte).headD 0).toNat
    ∧ (([12, 0, 0] : List Byte).headD 0).toNat = (11 : Fin 12) + 1 ∧ (zoned.row 11).enabled = false
    ∧ (([2, 0, 0] : List Byte).headD 0).toNat = (1 : Fin 12) + 1
    ∧ (if (zoned.row 1).num 14 ≠ 0 then (zoned.row 1).num 14 else (zoned.row 1).num 13) ≠ ((9 : Byte).toNat : Int) := by
  decide +kernel

theorem test_witness_StaleAndLockoutTimersMark :
    let s := withZone zoned 11 fun r => { r with reading := .fresh, staleTimer := .running 7 }
    (s.zone 11).reading = .fresh ∧ (s.zone 11).staleTimer.isRunning = true := by decide +kernel

theorem test_witness_OverrideRunsOut :
    (let s := withZone zoned 0 fun r => { r with override := some (0 + 2), minuteCount := .running 7 }
     (s.zone 0).override = some (0 + 2) ∧ (s.zone 0).minuteCount = .running 7)
    ∧ (let s := withZone zoned 0 fun r =>
        { r with override := some 1, minuteCount := .running 7, reading := .fresh, base := .setback }
       (s.zone 0).override = some 1 ∧ (s.zone 0).minuteCount.isRunning = true ∧ s.phase = .running
         ∧ s.economy = .active ∧ (s.row 0).enabled = true ∧ (s.zone 0).reading ≠ .never) := by decide +kernel

/-- Its timers run and its first poll round has ended. -/
theorem test_witness_QuietEntry :
    let s := { ready with
      quietTimer := .running 7, engine := { ready.engine with passTimer := .running 9 }
      port := { ready.port with round := none, roundTimer := .running 9 } }
    s.quietTimer.isRunning = true ∧ s.economy = .active ∧ s.engine.passTimer.isRunning = true
      ∧ s.port.roundTimer.isRunning = true ∧ s.port.round = none := by decide +kernel

/-- The row of zone 1 is enabled and its console may report it and read it. -/
theorem test_witness_ReadingAgeCounts :
    zoned.phase = .running ∧ (zoned.row 0).enabled = true
    ∧ (let src : Byte := BitVec.ofInt 8 (if (zoned.row 0).num 14 ≠ 0 then (zoned.row 0).num 14 else (zoned.row 0).num 13)
       zoned.fromRoomNode src = true
       ∧ (if (zoned.row 0).num 14 ≠ 0 then (zoned.row 0).num 14 else (zoned.row 0).num 13) = (src.toNat : Int))
    ∧ zoned.fromRoomNode 63 = true ∧ (zoned.caller 63).role ≠ .none := by decide +kernel

theorem test_witness_BusyOutsideRunning :
    (State.reset.phase ≠ .running ∧ (63 : Byte) ≠ State.reset.ownAddress
      ∧ Instr.wellFormed (.restart 63 1 []) = true ∧ Instr.request? (.restart 63 1 []) = some (63, 0x0B, 1, []))
    ∧ Instr.wellFormed (.malformedRequest 63 0x55 1 []) = true
    ∧ (Frame.src ⟨126, 63, 0x20, 1, []⟩ ≠ State.reset.ownAddress
      ∧ Instr.wellFormed (.proxyFrame ⟨126, 63, 0x20, 1, []⟩) = true) := by decide +kernel

theorem test_witness_MalformedIsAnswered :
    ready.phase = .running ∧ ready.fromRoomNode 63 = true
    ∧ Instr.request? (.setZone 63 1 [1, 16, 0, 0, 0, 0, 0, 0, 0]) = some (63, 0x02, 1, [1, 16, 0, 0, 0, 0, 0, 0, 0])
    ∧ wellFormedRequest 0x02 [1, 16, 0, 0, 0, 0, 0, 0, 0] = false
    ∧ (0x20 : Byte) ≠ 0x01 ∧ wellFormedRequest 0x20 [] = false := by decide +kernel

/-- Table 4 row 2: address 5, a CONSOLE bound to zone 3; row 3: address 6, a MASTER with its meters closed. -/
def roles : State :=
  { ready with tables := put (put (put (put Tables.default 4 2 1 5) 4 2 3 3) 4 3 1 6) 4 3 2 1 }

/-- A source no row names; a console beyond its zone and its reads; a master's save and its closed meters. -/
theorem test_witness_RoleRefuses :
    (roles.phase = .running ∧ roles.fromRoomNode 7 = true ∧ roles.fromRoomNode 5 = true ∧ roles.fromRoomNode 6 = true)
    ∧ (∀ i, (roles.tables.role.get i).num 1 ≠ ((7 : Byte).toNat : Int))
    ∧ ((roles.tables.role.get 1).num 1 = ((5 : Byte).toNat : Int)
        ∧ (∀ j, j < 1 → (roles.tables.role.get j).num 1 ≠ ((5 : Byte).toNat : Int))
        ∧ (roles.tables.role.get 1).num 2 = 0 ∧ (roles.tables.role.get 1).num 3 = 3)
    ∧ ((roles.tables.role.get 2).num 1 = ((6 : Byte).toNat : Int)
        ∧ (∀ j, j < 2 → (roles.tables.role.get j).num 1 ≠ ((6 : Byte).toNat : Int))
        ∧ (roles.tables.role.get 2).num 2 = 1 ∧ (roles.tables.role.get 2).num 4 = 0) := by
  refine ⟨?_, ?_, ?_, ?_⟩ <;> decide +kernel

/-- The requests they send. -/
theorem test_witness_RoleRefuses_requests :
    (Instr.request? (.saveConfig 6 1 []) = some (6, 0x0A, 1, []) ∧ Instr.wellFormed (.saveConfig 6 1 []) = true)
    ∧ (Instr.request? (.readField 5 1 [1, 1, 1]) = some (5, 0x05, 1, [1, 1, 1])
      ∧ Instr.wellFormed (.readField 5 1 [1, 1, 1]) = true)
    ∧ (Instr.request? (.readMeter 6 1 [0, 0]) = some (6, 0x07, 1, [0, 0]) ∧ Instr.wellFormed (.readMeter 6 1 [0, 0]) = true)
    ∧ Instr.request? (.setZone 5 1 [12, 8, 0, 0, 0, 0, 0, 0, 0]) = some (5, 0x02, 1, [12, 8, 0, 0, 0, 0, 0, 0, 0])
    ∧ Instr.wellFormed (.setZone 5 1 [12, 8, 0, 0, 0, 0, 0, 0, 0]) = true :=
  ⟨⟨rfl, by decide +kernel⟩, ⟨rfl, by decide +kernel⟩, ⟨rfl, by decide +kernel⟩, rfl, by decide +kernel⟩

/-- An enabled zone with all four parts while ACTIVE; the occupancy alone during a save, in QUIET. -/
theorem test_witness_SetZoneIsTaken :
    (zoned.phase = .running ∧ zoned.fromRoomNode 63 = true ∧ zoned.tables.safe ∧ (zoned.caller 63).role ≠ .none
      ∧ ((zoned.caller 63).role = .console → (zoned.caller 63).bound = (0 : Fin 12).val + 1)
      ∧ (8 ≤ 15 → (3 : Byte).toNat ≤ 3) ∧ (zoned.busy = true → 15 = 8) ∧ (zoned.row 0).enabled = true
      ∧ zoned.economy = .active)
    ∧ (let s := { zoned with store := { zoned.store with saving := .save }, economy := .quiet }
       s.phase = .running ∧ s.fromRoomNode 63 = true ∧ s.tables.safe ∧ (s.caller 63).role ≠ .none
         ∧ ((s.caller 63).role = .console → (s.caller 63).bound = (11 : Fin 12).val + 1) ∧ (s.busy = true → 8 = 8)
         ∧ s.economy = .quiet) :=
  ⟨⟨by decide +kernel, by decide +kernel, zonedTables_safe, by decide +kernel, by decide +kernel, by decide, by decide +kernel,
    by decide +kernel, rfl⟩,
   ⟨by decide +kernel, by decide +kernel, zonedTables_safe, by decide +kernel, by decide +kernel, by decide, rfl⟩⟩

theorem test_witness_ReadZoneAnswers :
    ready.phase = .running ∧ ready.fromRoomNode 63 = true ∧ (ready.caller 63).role ≠ .none
    ∧ (12 : Byte).toNat = (11 : Fin 12) + 1 ∧ 12 < (13 : Byte).toNat := by decide +kernel

theorem test_witness_ReadStatusAnswers :
    ready.phase = .running ∧ ready.fromRoomNode 63 = true ∧ (ready.caller 63).role ≠ .none ∧ 8 ≤ 8 ∧ 31 ≤ 31
    ∧ ready.engine.latest = none := by decide +kernel

/-- Table 7; row 13 of table 1; field 15 of table 1. -/
theorem test_witness_FieldNumbersAreChecked :
    ready.phase = .running ∧ ready.fromRoomNode 63 = true ∧ ([0, 0, 1] : List Byte).length = 3
    ∧ 6 < (7 : Byte).toNat
    ∧ ([12, 12, 32, 16, 1, 1].getD ((1 : Byte).toNat - 1) 0 < (13 : Byte).toNat
        ∧ [14, 1, 6, 4, 56, 5].getD ((1 : Byte).toNat - 1) 0 < (15 : Byte).toNat)
    ∧ (ready.caller 63).mayReadField = true ∧ (ready.caller 63).role = .service ∧ ready.busy = false := by decide +kernel

theorem test_witness_ReadsAnswer :
    ready.phase = .running ∧ ready.fromRoomNode 63 = true ∧ fieldExists (5 : Byte).toNat (1 : Byte).toNat (56 : Byte).toNat = true
    ∧ (ready.caller 63).mayReadField = true ∧ (ready.caller 63).mayReadMeter = true ∧ 22 < (23 : Byte).toNat
    ∧ (15 : Byte).toNat ≤ 15 ∧ (ready.caller 63).role = .service := by decide +kernel

/-- A busy store; a relief row that repeats zone 5; the last plant parameter in both economy states. -/
theorem test_witness_WriteFieldStores :
    (ready.phase = .running ∧ ready.fromRoomNode 63 = true ∧ (ready.caller 63).role = .service
      ∧ fieldExists 5 1 56 = true ∧ ¬ (5 = 1 ∧ (56 = 8 ∨ 56 = 9)) ∧ (-8388608 : Int) ≤ 8388607 ∧ ready.busy = false
      ∧ ready.economy = .active)
    ∧ ({ ready with store := { ready.store with saving := .save } } : State).busy = true
    ∧ (let s := { ready with tables := put Tables.default 2 1 1 5, economy := .quiet }
       s.phase = .running ∧ s.fromRoomNode 63 = true ∧ (s.caller 63).role = .service ∧ fieldExists 2 12 1 = true
         ∧ clamp (fieldSpec 2 12 1).lo (fieldSpec 2 12 1).hi 5 = 5 ∧ (0 : Fin 12).val + 1 ≠ 12
         ∧ s.tables.relief.get 0 = 5 ∧ s.economy = .quiet) := by decide +kernel

/-- A setback offset; the frost setpoint with zone 1 in AWAY; the reporting mode in both directions and as it stands. -/
theorem test_witness_WriteFieldStores_effects :
    let away := withZone zoned 0 fun r => { r with base := .away, reading := .fresh }
    let onChange := { zoned with tables := put zonedTables 6 1 1 1 }
    (fieldExists 1 12 10 = true ∧ 12 = (11 : Fin 12).val + 1)
    ∧ (fieldExists 5 1 54 = true ∧ 53 ≤ 54 ∧ 54 ≤ 55
        ∧ away.tables.plant.num 54 ≠ clamp (fieldSpec 5 1 54).lo (fieldSpec 5 1 54).hi 120
        ∧ (away.row 0).enabled = true ∧ (away.zone 0).base = .away ∧ (away.zone 0).override = none
        ∧ (away.zone 0).reading ≠ .never ∧ away.economy = .active)
    ∧ (fieldExists 6 1 1 = true ∧ zoned.tables.report.onChange ≠ onChange.tables.report.onChange)
    ∧ (let t := after (.writeField 63 7 [6, 1, 1, 0, 0, 0]) zoned
       let u := after (.writeField 63 7 [6, 1, 1, 0, 0, 1]) zoned
       let v := after (.writeField 63 7 [6, 1, 1, 0, 0, 0]) onChange
       t.tables.report.onChange = zoned.tables.report.onChange ∧ u.tables.report.onChange = true
         ∧ v.tables.report.onChange = false) := by decide +kernel

theorem test_witness_WriteSetpointKeepsSeparation :
    zoned.phase = .running ∧ zoned.fromRoomNode 63 = true ∧ (zoned.caller 63).role = .service ∧ zoned.busy = false
    ∧ zoned.tables.safe ∧ (8 = 8 ∨ 8 = 9) ∧ (9 = 8 ∨ 9 = 9) ∧ zoned.economy = .active ∧ (zoned.row 0).enabled = true
    ∧ ((withZone { zoned with economy := .quiet } 0 fun r => { r with reading := .fresh }).zone 0).reading ≠ .never :=
  ⟨by decide +kernel, by decide +kernel, by decide +kernel, by decide +kernel, zonedTables_safe, by decide, by decide, rfl,
    by decide +kernel, by decide +kernel⟩

theorem test_witness_WriteEnabledAndVoting :
    zoned.phase = .running ∧ zoned.economy = .active ∧ zoned.fromRoomNode 63 = true ∧ (zoned.caller 63).role = .service
    ∧ zoned.busy = false ∧ (zoned.row 0).enabled ≠ false ∧ (zoned.row 0).voting = true ∧ (zoned.row 11).enabled ≠ true := by
  decide +kernel

/-- HARD_LOCKOUT with nothing wrong and a result to take; HARD_LOCKOUT with a board lost. -/
theorem test_witness_ClearLockout :
    ready.phase = .running ∧ ready.fromRoomNode 63 = true ∧ (ready.caller 63).role = .service
    ∧ ready.seq.state ≠ .hardLockout
    ∧ (let s := withSeq ready fun q => { q with state := .hardLockout, newest := some heating }
       s.seq.state = .hardLockout ∧ s.seq.recordSafe ∧ s.port.lostIndoor = false ∧ s.seq.newest = some heating)
    ∧ (let s := withSeq { ready with port := { ready.port with lostIndoor := true } } fun q => { q with state := .hardLockout }
       s.seq.state = .hardLockout ∧ s.seq.recordSafe ∧ s.port.lostIndoor = true ∧ 0 ≤ s.seq.cmdQ ∧ s.seq.newest = none) :=
  ⟨rfl, by decide +kernel, by decide +kernel, nofun, ⟨rfl, recordSafe_of (by decide +kernel), rfl, rfl⟩,
    ⟨rfl, recordSafe_of (by decide +kernel), rfl, by decide +kernel, rfl⟩⟩

theorem test_witness_SaveConfig :
    ready.phase = .running ∧ ready.fromRoomNode 63 = true ∧ (ready.caller 63).role = .service
    ∧ ready.store.saving = .idle ∧ ready.store.wpHigh = false
    ∧ ({ ready with store := { ready.store with wpHigh := true } } : State).store.wpHigh = true
    ∧ ({ ready with store := { ready.store with saving := .save } } : State).store.saving ≠ .idle := by decide +kernel

theorem test_witness_RestartBeginsStopping :
    let s := withSeq ready fun q =>
      { q with state := .defrost, phase := some .melt, cmdQ := 800, defrostCtl := 1, shadow := some heating, newest := some heating }
    s.phase = .running ∧ s.fromRoomNode 63 = true ∧ (s.caller 63).role = .service ∧ s.busy = false
    ∧ s.seq.defrostCtl = 1 ∧ s.seq.cmdQ > 0 ∧ s.seq.defrosting = true ∧ ready.seq.defrosting = false := by decide +kernel

/-- A filter table whose row 1 serves address 5's frames to 64..126, and a part with every slot taken. -/
def filtered : State :=
  { ready with tables := put (put (put (put (put Tables.default 3 1 1 5) 3 1 2 5) 3 1 3 64) 3 1 4 126) 3 1 6 1 }

def filled : State :=
  { ready with
    tables := put Tables.default 6 1 4 0
    room := ⟨Tab.replicate 4 (.pending 9 70 0x30 1 none), []⟩ }

/-- The first row hits and serves; the default action drops, passes with no slot free, and passes with slot 0 free. -/
theorem test_witness_ProxyFrameIsFiltered :
    let f : Frame := ⟨66, 5, 0x20, 1, []⟩
    (filtered.phase = .running ∧ Instr.wellFormed (.proxyFrame f) = true ∧ f.src ≠ filtered.ownAddress
      ∧ (∀ i, (filtered.room.slots.get i).repeatedBy f = false)
      ∧ (let r := filtered.tables.filter.get 0
         r.num 1 ≤ f.src.toNat ∧ (f.src.toNat : Int) ≤ r.num 2 ∧ r.num 3 ≤ f.dst.toNat ∧ (f.dst.toNat : Int) ≤ r.num 4
           ∧ r.num 5 = 0 ∧ r.num 6 = 1)
      ∧ filtered.cached (f.dst.toNat - 64) = none)
    ∧ (ready.tables.report.num 4 = 3 ∧ ∀ k, ¬ ((ready.tables.filter.get k).num 1 ≤ f.src.toNat
        ∧ (f.src.toNat : Int) ≤ (ready.tables.filter.get k).num 2))
    ∧ (filled.tables.report.num 4 = 0 ∧ 2 ≤ f.dst.toNat - 64 ∧ (∀ i, filled.room.slots.get i ≠ .free)
        ∧ (∀ i, (filled.room.slots.get i).repeatedBy f = false) ∧ ready.room.slots.get 0 = .free) := by decide +kernel

/-- Slot 3 repeated while PENDING, READY with a reply, and READY with NO_ANSWER. -/
theorem test_witness_ProxyRepeatIsAnswered :
    let f : Frame := ⟨70, 5, 0x30, 1, [9]⟩
    let held (x : Slot) : State := { ready with room := ⟨ready.room.slots.set 3 x, []⟩ }
    let p : Slot := .pending f.src f.dst f.kind f.seq none
    let r (o : Option (Byte × List Byte)) : Slot := .ready f.src f.dst f.kind f.seq o (.running 7)
    Instr.wellFormed (.proxyFrame f) = true ∧ f.src ≠ ready.ownAddress
    ∧ ((held p).phase = .running ∧ (∀ j, j < 3 → ((held p).room.slots.get j).repeatedBy f = false)
        ∧ (held p).room.slots.get 3 = p)
    ∧ ((∀ j, j < 3 → ((held (r (some (0x3E, [])))).room.slots.get j).repeatedBy f = false)
        ∧ (held (r (some (0x3E, [])))).room.slots.get 3 = r (some (0x3E, [])))
    ∧ ((∀ j, j < 3 → ((held (r none)).room.slots.get j).repeatedBy f = false)
        ∧ (held (r none)).room.slots.get 3 = r none) := by decide +kernel

theorem test_witness_PassTimerRunsOnePass :
    bungalow.engine.passTimer.isRunning = true ∧ (bungalow.row 4).enabled = true ∧ (bungalow.row 5).enabled = false := by
  decide +kernel

/-- A result taken in RUN on the HEAT side. -/
theorem test_witness_PassTimerRunsOnePass_run :
    let s := withSeq (planted .run none heating 500) fun q => { q with runSide := some .heat }
    let s := { s with engine := { s.engine with passTimer := .running 7 } }
    s.engine.passTimer.isRunning = true ∧ s.tables.safe ∧ s.seq.recordSafe ∧ s.minOffSafe := by
  exact ⟨rfl, planted_ready rfl (by decide +kernel)⟩

/-- A damper's position at each end of its range. -/
theorem test_witness_PassResultIsBounded :
    let s := { zoned with
      engine := { zoned.engine with passTimer := .running 7 }
      port := { zoned.port with cache := [⟨16, 0, .damper ⟨0, .idle⟩⟩, ⟨17, 0, .damper ⟨100, .jammed⟩⟩] } }
    s.engine.passTimer.isRunning = true ∧ s.tables.safe ∧ s.cacheSafe := by
  refine ⟨rfl, zonedTables_safe, fun e he => ?_⟩
  rcases List.mem_cons.1 he with rfl | he
  · exact ⟨by decide, by decide⟩
  · cases List.mem_singleton.1 he; exact ⟨by decide, by decide⟩

/-- A minute that reaches the defrost interval in RUN on the HEAT side. -/
theorem test_witness_MinuteCounts :
    let s := withSeq ready fun q =>
      { q with state := .run, runSide := some .heat, newest := some heating, cmdQ := 500, frostTime := 45 }
    s.phase ≠ .stopping ∧ s.seq.state = .run ∧ s.seq.runSide = some .heat ∧ s.seq.minRun = .stopped
    ∧ s.tables.plant.defrostInterval ≤ (s.seq.frostTime : Int) ∧ s.seq.cmdQ > 0 := by decide +kernel

theorem test_witness_MinRunExpiry :
    (let s := withSeq ready fun q => { q with minRun := .running 7 }
     s.phase ≠ .stopping ∧ s.seq.minRun.isRunning = true ∧ s.seq.minRunHold = false ∧ s.defrostWanted = false)
    ∧ (let s := withSeq ready fun q =>
        { q with state := .run, runSide := some .heat, newest := some resting, minRun := .running 7, minRunHold := true, cmdQ := 300 }
       s.phase ≠ .stopping ∧ s.seq.minRun.isRunning = true ∧ s.seq.state = .run ∧ s.seq.minRunHold = true
         ∧ s.seq.newest = some resting ∧ ¬ (resting.q > 0 ∧ resting.served = s.seq.runSide)
         ∧ s.tables.plant.overrun > 0 ∧ s.seq.cmdQ > 0
         ∧ ¬ (s.store.saving = .idle ∧ s.store.wpHigh = false ∧ 60 ≤ s.uptime - s.store.lastMeterWrite)
         ∧ ({ s with uptime := 60 } : State).store.wpHigh = false) := by decide +kernel

/-- Min run elapsing in RUN: no hold with and without a wanted defrost, and a hold that a heating result continues and a cooling
one ends, the latter also with an overrun time of 0. -/
theorem test_witness_MinRunExpiry_results :
    let runs (r : PassResult) (hold : Bool) (frost : Nat) : State := withSeq (planted .run none r 300) fun q =>
      { q with runSide := some .heat, minRun := .running 7, minRunHold := hold, frostTime := frost }
    let zero : State := { runs cooling true 0 with tables := put zonedTables 5 1 26 0 }
    (∀ x ∈ [(heating, false, 45), (heating, false, 44), (heating, true, 45), (heating, true, 44), (cooling, true, 0)],
      let s := runs x.1 x.2.1 x.2.2
      s.phase ≠ .stopping ∧ s.seq.minRun.isRunning = true ∧ s.seq.newest = some x.1 ∧ s.seq.minRunHold = x.2.1
        ∧ s.tables.safe ∧ s.seq.recordSafe ∧ s.minOffSafe)
    ∧ (runs heating true 45).wantsDefrost ∧ ¬ (runs heating true 44).wantsDefrost
    ∧ (0 < heating.q ∧ heating.served = some .heat) ∧ cooling.served ≠ some .heat
    ∧ zero.tables.plant.overrun = 0 ∧ zero.tables.safe := by
  intro runs zero
  refine ⟨fun x hx => ⟨nofun, rfl, rfl, rfl, planted_ready rfl ?_⟩, by unfold State.wantsDefrost; decide +kernel,
    fun h => h.2.2.elim (fun h => absurd h (by decide +kernel)) (fun ⟨⟨d, hd, _⟩, _⟩ => nomatch hd), by decide, by decide,
    by decide +kernel, put_safe zonedTables_safe rfl⟩
  revert x
  decide +kernel

/-- Min off running in IDLE with no newest result; equalize running in EQUALIZE with the valve in flight, and in IDLE. -/
theorem test_witness_expiries_only_seen :
    (let s := withSeq zoned fun q => { q with minOff := .running 7 }
     s.phase ≠ .stopping ∧ s.seq.minOff.isRunning = true ∧ s.seq.newest = none ∧ s.seq.recordSafe)
    ∧ (let s := withSeq (planted .equalize none cooling 0) fun q => { q with equalize := .running 7, inFlight := some .heat }
       s.phase ≠ .stopping ∧ s.seq.equalize.isRunning = true ∧ s.seq.state = .equalize ∧ s.seq.inFlight.isSome = true)
    ∧ (let s := withSeq zoned fun q => { q with equalize := .running 7 }
       s.seq.equalize.isRunning = true ∧ s.seq.state ≠ .equalize ∧ s.seq.state ≠ .startWait) :=
  ⟨⟨nofun, rfl, rfl, recordSafe_of (by decide +kernel)⟩, by decide +kernel, by decide +kernel⟩

/-- A heating and a cooling start, the latter at Qmin. -/
theorem test_witness_MinOffExpiryStarts :
    let waits (r : PassResult) (d : Side) : State := withSeq zoned fun q =>
      { q with state := .startWait, newest := some r, valveDir := some d, minOff := .running 7 }
    let ok (r : PassResult) (d : Side) : Prop :=
      (waits r d).phase ≠ .stopping ∧ (waits r d).seq.minOff.isRunning = true ∧ (waits r d).seq.state = .startWait
      ∧ (waits r d).seq.valveFailed = false ∧ (waits r d).seq.newest = some r ∧ r.q > 0 ∧ r.served = some d
      ∧ (waits r d).seq.valveDir = some d ∧ (waits r d).seq.cmdQ = 0
    ok heating .heat ∧ ok cooling .cool ∧ (waits heating .heat).tables.safe :=
  ⟨by decide +kernel, by decide +kernel, zonedTables_safe⟩

/-- START_WAIT after a failed valve command, START_IN, START_OUT and an idle part, each with min off running. -/
theorem test_witness_MinOffExpiryStarts_phases :
    let waits (st : PlantState) (ph : Option DefrostPhase) (lost : Bool) : State :=
      withSeq (planted st ph heating 0) fun q => { q with minOff := .running 7, valveFailed := lost }
    ∀ x ∈ [(PlantState.startWait, none, true), (.defrost, some DefrostPhase.startIn, false),
        (.recovery, some .startOut, false), (.idle, none, false)],
      let s := waits x.1 x.2.1 x.2.2
      s.phase ≠ .stopping ∧ s.seq.minOff.isRunning = true ∧ s.seq.newest = some heating ∧ s.tables.safe
        ∧ s.seq.recordSafe ∧ s.minOffSafe := by
  intro waits x hx s
  refine ⟨nofun, rfl, rfl, planted_ready rfl ?_⟩
  revert x
  decide +kernel

/-- The equalize expiry in START_WAIT, and the overrun's end with capacity to serve. -/
theorem test_witness_EqualizeAndOverrunExpiry_capacity :
    (let s := withSeq (planted .startWait none cooling 0) fun q => { q with equalize := .running 7 }
     s.phase ≠ .stopping ∧ s.seq.equalize.isRunning = true ∧ s.seq.state = .startWait ∧ s.seq.newest = some cooling
       ∧ s.tables.safe ∧ s.minOffSafe)
    ∧ (let s := withSeq (planted .overrun none heating 0) fun q => { q with overrun := .running 7 }
       s.phase ≠ .stopping ∧ s.seq.overrun.isRunning = true ∧ s.seq.state = .overrun ∧ s.seq.newest = some heating
         ∧ heating.q > 0 ∧ heating.served = some .heat ∧ s.tables.safe ∧ s.minOffSafe) := by
  exact ⟨⟨nofun, rfl, rfl, rfl, zonedTables_safe, minOffSafe_of (by decide +kernel)⟩,
    nofun, rfl, rfl, rfl, by decide, rfl, zonedTables_safe, minOffSafe_of (by decide +kernel)⟩

theorem test_witness_EqualizeAndOverrunExpiry :
    (let s := withSeq ready fun q => { q with state := .equalize, newest := some cooling, equalize := .running 7 }
     s.phase ≠ .stopping ∧ s.seq.equalize.isRunning = true ∧ s.seq.state = .equalize ∧ s.seq.newest = some cooling
       ∧ cooling.served = some .cool ∧ s.seq.inFlight = none)
    ∧ (let s := withSeq ready fun q => { q with state := .overrun, newest := some resting, overrun := .running 7 }
       s.phase ≠ .stopping ∧ s.seq.overrun.isRunning = true ∧ s.seq.state = .overrun ∧ s.seq.newest = some resting
         ∧ resting.q ≤ 0) := by decide +kernel

theorem test_witness_ColdDraftExpiry :
    (let s := withSeq ready fun q => { q with state := .run, coldDraft := .running 7, coldDraftHold := true, inForce := some heating }
     s.phase ≠ .stopping ∧ s.seq.coldDraft.isRunning = true ∧ s.seq.state = .run ∧ s.seq.coldDraftHold = true
       ∧ s.seq.inForce = some heating)
    ∧ (let s := withSeq ready fun q =>
        { q with state := .recovery, phase := some .warming, coldDraft := .running 7, shadow := some heating }
       s.phase ≠ .stopping ∧ s.seq.coldDraft.isRunning = true ∧ s.seq.state = .recovery ∧ s.seq.phase = some .warming
         ∧ s.seq.shadow = some heating ∧ heating.q > 0 ∧ heating.served = some .heat ∧ s.seq.coilFreezeHold = false) := by
  decide +kernel

/-- The cold-draft hold running out in WARMING over a heating, a cooling and a resting shadow. -/
theorem test_witness_ColdDraftExpiry_warming :
    ∀ r ∈ [heating, cooling, resting],
      let s := withSeq (planted .recovery (some .warming) r 500) fun q => { q with coldDraft := .running 7 }
      s.phase ≠ .stopping ∧ s.seq.coldDraft.isRunning = true ∧ s.seq.phase = some .warming ∧ s.seq.shadow = some r
        ∧ s.tables.safe ∧ s.seq.recordSafe ∧ s.minOffSafe := by
  intro r hr
  refine ⟨nofun, rfl, rfl, rfl, planted_ready rfl ?_⟩
  revert r
  decide +kernel

/-- The third freeze at exactly 60 minutes from the first, and at 61. -/
theorem test_witness_CoilFreezeLocksOut :
    let frozen (h : List Nat) : State := withSeq { ready with uptime := 100 } fun q =>
      { q with state := .run, runSide := some .cool, coilFreeze := .running 7, coilFreezeHold := true, cmdQ := 300, history := h }
    let ok (h : List Nat) : Prop := (frozen h).phase ≠ .stopping ∧ (frozen h).seq.coilFreeze.isRunning = true
      ∧ (frozen h).seq.coilFreezeHold = true ∧ (frozen h).seq.state = .run ∧ (frozen h).seq.causes = Causes.empty
      ∧ (frozen h).seq.defrostCtl = 0 ∧ (frozen h).seq.cmdQ > 0 ∧ (frozen h).seq.history.length ≤ 3
    ok [40, 70] ∧ ok [10, 39, 70] ∧ ok [] := by decide +kernel

/-- OUTDOOR_FAULT as the last cause; COIL_FREEZE beside CONDENSATE, which keeps the fan, and beside OUTDOOR_LOST, which does
not; CONDENSATE before a NORMAL float. -/
theorem test_witness_LockoutTimeExpiry :
    let out (c : LockoutCause) (cs : Causes) : State := withSeq ready fun q =>
      { q with state := .lockout, displayed := some c, causes := { cs.add (.running 7) c with condNormalSeen := false } }
    let ok (c : LockoutCause) (cs : Causes) : Prop := (out c cs).phase ≠ .stopping
      ∧ ((out c cs).seq.causes.timer c).isRunning = true ∧ (out c cs).seq.causes.has c = true
    let wet : Causes := { Causes.empty with condensate := true }
    let lost : Causes := { Causes.empty with outdoorLost := true }
    (ok .outdoorFault Causes.empty ∧ ((out .outdoorFault Causes.empty).seq.causes.remove .outdoorFault).any = false
      ∧ (out .outdoorFault Causes.empty).seq.newest = none)
    ∧ (ok .coilFreeze wet ∧ ((out .coilFreeze wet).seq.causes.remove .coilFreeze).condensate = true)
    ∧ (ok .coilFreeze lost ∧ ((out .coilFreeze lost).seq.causes.remove .coilFreeze).any = true
      ∧ ((out .coilFreeze lost).seq.causes.remove .coilFreeze).fanRuns = false)
    ∧ ok .condensate Causes.empty ∧ (out .condensate Causes.empty).seq.causes.condNormalSeen = false := by
  decide +kernel

/-- Each cause that has a lockout time as the last one, CONDENSATE after a NORMAL float, with a heating newest result. -/
theorem test_witness_LockoutTimeExpiry_result :
    ∀ c ∈ [LockoutCause.outdoorFault, .condensate, .coilFreeze],
      let s := withSeq (planted .lockout none heating 0) fun q =>
        { q with displayed := some c, causes := { Causes.empty.add (.running 7) c with condNormalSeen := true } }
      (s.phase ≠ .stopping ∧ (s.seq.causes.timer c).isRunning = true ∧ s.seq.causes.has c = true
        ∧ s.seq.causes.condNormalSeen = true ∧ (s.seq.causes.remove c).any = false ∧ s.seq.newest = some heating)
      ∧ s.tables.safe ∧ s.seq.recordSafe ∧ s.minOffSafe := by
  intro c hc
  refine ⟨?_, planted_ready rfl ?_⟩ <;> · revert c; decide +kernel

theorem test_witness_DefrostPauseExpiry :
    let pausing (p : DefrostPhase) (r : PassResult) : State := withSeq ready fun q =>
      { q with state := .defrost, phase := some p, pauseTimer := .running 7, shadow := some r, newest := some r }
    ((pausing .pauseIn heating).phase ≠ .stopping ∧ (pausing .pauseIn heating).seq.pauseTimer.isRunning = true
      ∧ (pausing .pauseIn heating).seq.phase = some .pauseIn)
    ∧ ((pausing .pauseOut heating).seq.phase = some .pauseOut ∧ (pausing .pauseOut heating).seq.shadow = some heating
      ∧ heating.served = some .heat ∧ heating.q > 0)
    ∧ ((pausing .pauseOut resting).seq.shadow = some resting ∧ (pausing .pauseOut resting).seq.newest = some resting
      ∧ resting.q ≤ 0) := by decide +kernel

/-- The end of a defrost over a cooling and a resting shadow. -/
theorem test_witness_DefrostPauseExpiry_leaves :
    ∀ r ∈ [cooling, resting],
      let s := withSeq (planted .defrost (some .pauseOut) r 0) fun q => { q with pauseTimer := .running 7 }
      (s.phase ≠ .stopping ∧ s.seq.pauseTimer.isRunning = true ∧ s.seq.phase = some .pauseOut ∧ s.seq.shadow = some r)
      ∧ ¬ (r.served = some .heat ∧ 0 < r.q) ∧ s.tables.safe ∧ s.seq.recordSafe ∧ s.minOffSafe := by
  intro r hr
  refine ⟨⟨nofun, rfl, rfl, rfl⟩, ?_, planted_ready rfl ?_⟩ <;> · revert r; decide +kernel

theorem test_witness_DefrostMaxExpiry :
    let melting (n : Nat) : State := withSeq ready fun q =>
      { q with state := .defrost, phase := some .melt, maxTimer := .running 7, cmdQ := 800, incomplete := n, defrostCtl := 1 }
    (∀ n, (melting n).phase ≠ .stopping ∧ (melting n).seq.maxTimer.isRunning = true ∧ (melting n).seq.state = .defrost
      ∧ (melting n).seq.phase = some .melt ∧ (melting n).seq.cmdQ > 0)
    ∧ (melting 0).seq.incomplete = 0 ∧ (melting 1).seq.incomplete = 1 ∧ (melting 1).seq.causes = Causes.empty
    ∧ (melting 1).seq.history = [] ∧ (melting 1).seq.defrostCtl = 1 :=
  ⟨fun _ => ⟨nofun, rfl, rfl, rfl, by show (800 : Int) > 0; decide⟩, by decide +kernel⟩

/-- A poll owed; a command behind a reserved one; a poll that waits its turn; an empty slot. -/
theorem test_witness_SlotIsGranted :
    let r : Round := ⟨0, 2, []⟩
    let reserved := flying .fan 40 .issued 0
    let next := Entry.fresh .compressor 500 .pass
    let busy := queued ready [reserved, Entry.fresh .fan 50 .pass, next]
    let late := { withRound ready (some r) with port := { (withRound ready (some r)).port with grants := [false, false, true] } }
    (ready.phase ≠ .loading ∧ ready.port.exchange = none ∧ ready.port.retx = none ∧ ready.port.round = none
      ∧ ready.queue.entries = [] ∧ ready.room.passThrough = [])
    ∧ ((withRound ready (some r)).port.round = some r ∧ (withRound ready (some r)).port.grants.any id = false)
    ∧ (busy.port.round = none ∧ busy.queue.entries = [reserved, Entry.fresh .fan 50 .pass] ++ next :: []
        ∧ busy.queue.disciplined
        ∧ (∀ x ∈ [reserved, Entry.fresh .fan 50 .pass], x.st ≠ .waiting ∨ busy.queue.reserved x.act = true)
        ∧ next.st = .waiting ∧ busy.queue.reserved next.act = false ∧ busy.unaddressable next.act = false)
    ∧ (late.port.round = some r ∧ late.port.grants.any id = true ∧ late.room.passThrough = []) := by decide +kernel

theorem test_witness_SlotCarriesRetransmissionsAndForwards :
    let e := flying .fan 40 .issued 0
    let again := { queued ready [e] with port := { ready.port with retx := some (.command .fan) } }
    let fwd := { ready with port := { ready.port with retx := some (.forward 3 6 9 0x30 [1]) } }
    let pass := { ready with room := ⟨ready.room.slots.set 3 (.pending 5 70 0x30 1 (some [9])), [3]⟩ }
    let out := { queued ready [Entry.fresh (.damper 11) 50 .pass] with tables := put Tables.default 5 1 44 11 }
    (again.phase ≠ .loading ∧ again.port.exchange = none ∧ again.port.retx = some (.command .fan)
      ∧ again.queue.inFlight .fan = some e ∧ e.addr = some 3 ∧ e.seq = some 9)
    ∧ (fwd.phase ≠ .loading ∧ fwd.port.exchange = none ∧ fwd.port.retx = some (.forward 3 6 9 0x30 [1]))
    ∧ (pass.port.retx = none ∧ pass.port.round = none ∧ pass.queue.entries = [] ∧ pass.room.passThrough = 3 :: []
        ∧ pass.room.slots.get 3 = .pending 5 70 0x30 1 (some [9]))
    ∧ (out.phase ≠ .loading ∧ out.port.exchange = none ∧ out.port.retx = none ∧ out.port.round = none
        ∧ out.room.passThrough = [] ∧ out.queue.entries = [Entry.fresh (.damper 11) 50 .pass]
        ∧ out.tables.plant.damperFieldLength ≤ (out.row 11).channel) := by decide +kernel

/-- Either board's third missed poll, zone 12's, a first missed poll; the last retry and the one before it. -/
theorem test_witness_UnansweredExchangeEnds :
    let polls (t : Fin 14) (n : Nat) : State :=
      let s := asking (withRound ready (some ⟨t, 3, []⟩)) (.poll t)
      { s with port := { s.port with missed := s.port.missed.set t n } }
    let tried (n : Nat) := asking (queued ready [flying .fan 40 .issued n]) (.command .fan)
    let held := { asking ready (.forward 3 0x30 [1] true) with
      room := ⟨ready.room.slots.set 3 (.pending 5 70 0x30 1 none), []⟩ }
    (∀ t : Fin 14, (polls t 2).phase = .running ∧ (polls t 2).port.exchange = some ⟨.poll t, 3, 9, .running 50⟩
      ∧ (polls t 2).port.round = some ⟨t, 3, []⟩
      ∧ (polls t 2).port.missed.get t = 2 ∧ (polls t 0).port.missed.get t ≠ 2)
    ∧ ((polls 0 2).seq.recordSafe ∧ (polls 0 2).seq.causes.indoorLost = false ∧ (polls 0 2).seq.state ≠ .hardLockout)
    ∧ ((polls 1 2).seq = (polls 0 2).seq ∧ (polls 1 2).seq.causes.outdoorLost = false)
    ∧ ((tried 2).phase ≠ .stopping ∧ (tried 2).port.exchange = some ⟨.command .fan, 3, 9, .running 50⟩
        ∧ (tried 2).queue.inFlight .fan = some (flying .fan 40 .issued 2)
        ∧ ((2 : Nat) : Int) < (tried 2).tables.plant.retryLimit ∧ (tried 2).tables.plant.retryLimit ≤ ((3 : Nat) : Int)
        ∧ (tried 3).queue.inFlight .fan = some (flying .fan 40 .issued 3))
    ∧ (held.phase ≠ .stopping ∧ held.port.exchange = some ⟨.forward 3 0x30 [1] true, 3, 9, .running 50⟩
        ∧ held.room.slots.get 3 = .pending 5 70 0x30 1 none) := by
  unfold Sequencer.recordSafe
  decide +kernel

/-- The plant states that a valve's failure meets, each ready for it: VALVE_IN, VALVE_OUT and IDLE. -/
theorem test_witness_valveReady :
    ∀ x ∈ [(PlantState.defrost, some DefrostPhase.valveIn), (.recovery, some .valveOut), (.idle, none)],
      (planted x.1 x.2 heating 0).valveReady ∧ (planted x.1 x.2 heating 0).seq.awaits heating := by
  intro x hx
  refine ⟨planted_ready rfl ?_, fun _ => rfl⟩
  revert x
  decide +kernel

/-- A valve command without an answer at its last retry, in each of them. -/
theorem test_witness_UnansweredExchangeEnds_valve :
    ∀ x ∈ [(PlantState.defrost, some DefrostPhase.valveIn), (.recovery, some .valveOut), (.idle, none)],
      let s := asking (queued (planted x.1 x.2 heating 0) [flying .valve 1 .issued 3]) (.command .valve)
      s.phase ≠ .stopping ∧ s.port.exchange = some ⟨.command .valve, 3, 9, .running 50⟩
        ∧ s.queue.inFlight .valve = some (flying .valve 1 .issued 3)
        ∧ s.tables.plant.retryLimit ≤ ((flying .valve 1 .issued 3).retries : Int)
        ∧ s.valveReady ∧ s.seq.awaits heating := fun x hx =>
  have h := test_witness_valveReady x hx
  ⟨nofun, rfl, rfl, show zonedTables.plant.retryLimit ≤ (3 : Nat) by decide +kernel, h.1, h.2⟩

theorem test_witness_AcceptIsTaken :
    let sent (a : Actuator) := asking (queued ready [flying a 50 .issued 0]) (.command a)
    (∀ a ∈ [Actuator.fan, .defrost, .damper 0, .damper 11, .valve, .compressor],
      (sent a).port.exchange = some ⟨.command a, (3 : Byte).toNat, 9, .running 50⟩
      ∧ (sent a).queue.inFlight a = some (flying a 50 .issued 0) ∧ (sent a).phase ≠ .stopping)
    ∧ (let s := { sent .fan with phase := .stopping }
       s.phase = .stopping ∧ s.queue.entries = [flying .fan 50 .issued 0]) := by decide +kernel

theorem test_witness_RefuseIsTaken :
    let sent (a : Actuator) := asking (queued (withSeq ready fun q => { q with state := .startWait }) [flying a 1 .issued 0])
      (.command a)
    ∀ a ∈ [Actuator.fan, .damper 11, .valve], (sent a).phase ≠ .stopping
      ∧ (sent a).port.exchange = some ⟨.command a, (3 : Byte).toNat, 9, .running 50⟩
      ∧ (sent a).queue.inFlight a = some (flying a 1 .issued 0) ∧ ([7] : List Byte).length ≤ 1
      ∧ (a ≠ .valve ∨ (sent a).seq.state = .startWait) := by decide +kernel

/-- A valve's refusal in VALVE_IN, VALVE_OUT and IDLE. -/
theorem test_witness_RefuseIsTaken_valve :
    ∀ x ∈ [(PlantState.defrost, some DefrostPhase.valveIn), (.recovery, some .valveOut), (.idle, none)],
      let s := asking (queued (planted x.1 x.2 heating 0) [flying .valve 1 .issued 0]) (.command .valve)
      s.phase ≠ .stopping ∧ s.port.exchange = some ⟨.command .valve, (3 : Byte).toNat, 9, .running 50⟩
        ∧ s.queue.inFlight .valve = some (flying .valve 1 .issued 0) ∧ s.valveReady ∧ s.seq.awaits heating := fun x hx =>
  have h := test_witness_valveReady x hx
  ⟨nofun, rfl, rfl, h.1, h.2⟩

theorem test_witness_ForwardedReplyIsHeld :
    let f : Frame := ⟨1, 3, 0x3E, 9, []⟩
    let s := { asking ready (.forward 3 0x30 [1] true) with
      room := ⟨ready.room.slots.set 3 (.pending 5 70 0x30 1 none), []⟩ }
    f.dst = 1 ∧ s.port.exchange = some ⟨.forward 3 0x30 [1] true, f.src.toNat, f.seq, .running 50⟩
    ∧ s.room.slots.get 3 = .pending 5 70 0x30 1 none := by decide +kernel

theorem test_witness_IndoorReplyIsFiled :
    let s := withSeq (asking ready (.poll 0)) fun q =>
      { q with state := .lockout, displayed := some .condensate
               causes := { Causes.empty with condensate := true, condTimer := .running 7 } }
    s.phase ≠ .stopping ∧ s.port.exchange = some ⟨.poll 0, (3 : Byte).toNat, 9, .running 50⟩ ∧ s.seq.recordSafe
    ∧ s.seq.state ≠ .hardLockout ∧ s.seq.causes.condensate = true ∧ s.seq.causes.condTimer.isRunning = true := by
  unfold Sequencer.recordSafe
  decide +kernel

/-- RUN on the HEAT side under the cold-draft hold at 280, RUN on the COOL side under each state of the coil freeze hold,
and WARMING. -/
theorem test_witness_IndoorReplyIsFiled_run :
    let p := zonedTables.plant
    let hot := withSeq (planted .run none heating 500) fun q =>
      { q with runSide := some .heat, coldDraftHold := true, inForce := some heating }
    let cold (h : Bool) := withSeq (planted .run none cooling 300) fun q =>
      { q with runSide := some .cool, coilFreezeHold := h }
    (p.coldDraftCoil ≤ 280 ∧ 279 < p.coldDraftCoil ∧ -1 < p.coilFreezeLimit ∧ p.coilFreezeLimit ≤ 100)
    ∧ (hot.seq.recordSafe ∧ hot.seq.state = .run ∧ hot.seq.runSide = some .heat ∧ hot.seq.coldDraftHold = true
        ∧ hot.seq.inForce = some heating)
    ∧ (∀ h, (cold h).seq.recordSafe ∧ (cold h).seq.state = .run ∧ (cold h).seq.runSide = some .cool
        ∧ (cold h).seq.coilFreezeHold = h)
    ∧ (planted .recovery (some .warming) heating 500).seq.recordSafe
    ∧ (planted .recovery (some .warming) heating 500).minOffSafe
    ∧ (planted .recovery (some .warming) heating 500).seq.shadow = some heating
    ∧ (asking hot (.poll 0)).port.exchange = some ⟨.poll 0, (3 : Byte).toNat, 9, .running 50⟩ :=
  ⟨by decide +kernel, ⟨recordSafe_of (by decide +kernel), rfl, rfl, rfl, rfl⟩,
    fun h => ⟨recordSafe_of (by revert h; decide +kernel), rfl, rfl, rfl⟩, recordSafe_of (by decide +kernel),
    minOffSafe_of (by decide +kernel), rfl, rfl⟩

/-- A valve that completes in START_WAIT, VALVE_IN and VALVE_OUT. -/
theorem test_witness_OutdoorReplyIsFiled_valve :
    ∀ x ∈ [(PlantState.startWait, none), (.defrost, some DefrostPhase.valveIn), (.recovery, some .valveOut)],
      let s := asking (queued (planted x.1 x.2 heating 0) [flying .valve 1 .moving 0]) (.poll 1)
      s.phase ≠ .stopping ∧ s.port.exchange = some ⟨.poll 1, (3 : Byte).toNat, 9, .running 50⟩ ∧ s.queue.disciplined
        ∧ (∃ e, s.queue.inFlight .valve = some e ∧ e.st = .moving ∧ ValveShown.heat.code = e.value)
        ∧ (s.seq.state = .startWait ∨ s.seq.phase = some .valveIn ∨ s.seq.phase = some .valveOut)
        ∧ clamp (-400) 850 119 < s.tables.plant.defrostEndCoil ∧ s.seq.newest = some heating
        ∧ s.tables.safe ∧ s.seq.recordSafe ∧ s.minOffSafe := by
  intro x hx s
  have h : x.1 = .startWait ∨ x.2 = some .valveIn ∨ x.2 = some .valveOut := by revert x; decide
  refine ⟨nofun, rfl, List.pairwise_singleton _ _, ⟨_, rfl, rfl, rfl⟩, h,
    show clamp (-400) 850 119 < zonedTables.plant.defrostEndCoil by decide +kernel, rfl, planted_ready rfl ?_⟩
  revert x
  decide +kernel

/-- A defrost wanted by the interval and by the frost flag, a melt at its end temperature, and OUTDOOR_LOST as the last
cause. -/
theorem test_witness_OutdoorReplyIsFiled_defrost :
    let p := zonedTables.plant
    let frosted := withSeq (planted .run none heating 500) fun q => { q with runSide := some .heat, frostTime := 45 }
    let lost := withSeq (planted .lockout none heating 0) fun q =>
      { q with displayed := some .outdoorLost, causes := { Causes.empty with outdoorLost := true } }
    (p.defrostInterval ≤ (45 : Nat) ∧ p.defrostMinimum ≤ (10 : Nat) ∧ p.defrostEndCoil ≤ clamp (-400) 850 120)
    ∧ (∀ s ∈ [frosted, planted .defrost (some .melt) heating 800, lost],
        s.seq.recordSafe ∧ s.minOffSafe ∧ s.queue.inFlight .valve = none)
    ∧ (frosted.seq.state = .run ∧ frosted.seq.runSide = some .heat ∧ frosted.seq.minRun = .stopped)
    ∧ ((lost.seq.causes.remove .outdoorLost).any = false ∧ lost.seq.newest = some heating) := by
  refine ⟨by decide +kernel, fun s hs => ?_, by decide +kernel, by decide +kernel⟩
  have h : recordSafeB s.seq = true ∧ minOffSafeB s = true ∧ s.queue.inFlight .valve = none := by
    revert s
    decide +kernel
  exact ⟨recordSafe_of h.1, minOffSafe_of h.2.1, h.2.2⟩

/-- A compressor at the edge of its criterion and a valve, both MOVING. -/
theorem test_witness_OutdoorReplyIsFiled :
    let es := [flying .compressor 500 .moving 0, flying .valve 1 .moving 0]
    let s := asking (queued ready es) (.poll 1)
    s.phase ≠ .stopping ∧ s.port.exchange = some ⟨.poll 1, (3 : Byte).toNat, 9, .running 50⟩ ∧ s.seq.recordSafe
    ∧ s.queue.disciplined ∧ s.queue.inFlight .compressor = some (flying .compressor 500 .moving 0)
    ∧ 500 - 50 ≤ clamp 0 1000 450 ∧ clamp 0 1000 450 ≤ 500 + 50
    ∧ s.queue.inFlight .valve = some (flying .valve 1 .moving 0) ∧ ValveShown.heat.code = 1
    ∧ s.seq.state = .idle ∧ s.seq.causes.outdoorLost = false ∧ s.seq.history.length < 2 := by
  unfold Sequencer.recordSafe
  decide +kernel

/-- The damper of zone 12 MOVING to 50, at 53 and at 54. -/
theorem test_witness_DamperReplyIsJudged :
    let e := flying (.damper 11) 50 .moving 0
    let s := asking (withRound (queued ready [e]) (some ⟨13, 3, []⟩)) (.poll 13)
    s.port.exchange = some ⟨.poll 13, (3 : Byte).toNat, 9, .running 50⟩
    ∧ s.port.round = some ⟨13, (3 : Byte).toNat, []⟩ ∧ s.queue.inFlight (.damper 11) = some e
    ∧ e.addr = some (3 : Byte).toNat ∧ e.st = .moving
    ∧ (∀ y : Fin 12, y ≠ 11 → s.damperAddress y ≠ (3 : Byte).toNat ∧ s.queue.inFlight (.damper y) = none)
    ∧ clamp 0 100 (53 : Byte).toNat ≤ e.value + 3 ∧ e.value + 3 < clamp 0 100 (54 : Byte).toNat := by decide +kernel

/-- Zone 12's damper with no command in flight, STALLED and last sent to 50, at 53 and at 54; and not STALLED. -/
theorem test_witness_DamperReplyIsJudged_idle :
    let s := asking (withRound zoned (some ⟨13, 27, []⟩)) (.poll 13)
    let s : State := { s with
      port := { s.port with exchange := some ⟨.poll 13, 27, 9, .running 50⟩ }
      queue := { s.queue with lastIssued := s.queue.lastIssued.set 11 (some 50) } }
    let u : State := { s with queue := { s.queue with status := s.queue.status.set 11 .stalled } }
    (∀ x ∈ [s, u], x.port.exchange = some ⟨.poll 13, (27 : Byte).toNat, 9, .running 50⟩
      ∧ x.port.round = some ⟨13, (27 : Byte).toNat, []⟩ ∧ x.queue.inFlight (.damper 11) = none
      ∧ x.damperAddress 11 = (27 : Byte).toNat
      ∧ ∀ y : Fin 12, y ≠ 11 → x.damperAddress y ≠ (27 : Byte).toNat ∧ x.queue.inFlight (.damper y) = none)
    ∧ u.queue.status.get (Actuator.ix (.damper 11)) = .stalled ∧ s.queue.status.get (Actuator.ix (.damper 11)) ≠ .stalled
    ∧ u.queue.lastIssued.get (Actuator.ix (.damper 11)) = some 50
    ∧ (50 : Int) - 3 ≤ clamp 0 100 (53 : Byte).toNat ∧ clamp 0 100 (53 : Byte).toNat ≤ (50 : Int) + 3
    ∧ ¬ clamp 0 100 (54 : Byte).toNat ≤ (50 : Int) + 3 := by decide +kernel

/-- The turn after the outdoor board's: the damper of zone 2 where it is the first enabled one, and no target after zone 2's,
with a round that waits and without; a damper entry of an address not polled leaves the cache. -/
theorem test_witness_turnPasses :
    let s := { zoned with tables := put zonedTables 1 1 1 0 }
    let ended (w : Bool) : State :=
      let t := asking (withRound s (some ⟨3, 3, [2]⟩)) (.poll 3)
      after .replyWindowExpiry { t with port := { t.port with
        roundWaiting := w, cache := [⟨3, 0, .damper ⟨50, .idle⟩⟩, ⟨16, 0, .damper ⟨50, .idle⟩⟩] } }
    (s.pollAddress 2 = none ∧ s.pollAddress 3 = some 17 ∧ ∀ n : Fin 14, 3 < n → s.pollAddress n = none)
    ∧ (after .replyWindowExpiry (asking (withRound s (some ⟨1, 3, [2]⟩)) (.poll 1))).port.round = some ⟨3, 17, [3, 2]⟩
    ∧ ((ended false).port.round = none ∧ (ended true).port.round = some ⟨0, 2, []⟩
      ∧ (ended false).port.cache = [⟨3, 0, .damper ⟨50, .idle⟩⟩]) := by
  decide +kernel

/-- A STALLED compressor with nothing in flight, last sent to 500. -/
theorem test_witness_OutdoorReplyIsFiled_returns :
    let s := asking (withRound zoned (some ⟨1, 3, [2]⟩)) (.poll 1)
    let s : State := { s with queue := { s.queue with
      status := s.queue.status.set 13 .stalled, lastIssued := s.queue.lastIssued.set 13 (some 500) } }
    (s.phase ≠ .stopping ∧ s.port.exchange = some ⟨.poll 1, (3 : Byte).toNat, 9, .running 50⟩ ∧ s.queue.disciplined
      ∧ s.port.round = some ⟨1, (3 : Byte).toNat, [2]⟩ ∧ s.queue.inFlight .compressor = none
      ∧ s.queue.status.get (Actuator.ix .compressor) = .stalled
      ∧ s.queue.lastIssued.get (Actuator.ix .compressor) = some 500) ∧ s.seq.recordSafe :=
  ⟨by decide +kernel, recordSafe_of (by decide +kernel)⟩

theorem test_witness_MovementTimesOut :
    let moving (a : Actuator) := { queued ready [flying a 1 .moving 0] with
      port := { ready.port with cache := [⟨3, 0, .outdoor ⟨0, 0, 200, .moving, false, 0, false⟩⟩] } }
    ∀ a ∈ [Actuator.damper 11, .compressor, .valve], (moving a).phase ≠ .stopping
      ∧ (moving a).queue.inFlight a = some (flying a 1 .moving 0) ∧ (flying a 1 .moving 0).st = .moving
      ∧ (flying a 1 .moving 0).timeout = .running 5 ∧ (moving a).seq.state ≠ .defrost ∧ (moving a).seq.state ≠ .recovery
      ∧ (moving a).outdoorEntry = some ⟨0, 0, 200, .moving, false, 0, false⟩ := by decide +kernel

/-- A valve's timeout in VALVE_IN, VALVE_OUT and IDLE. -/
theorem test_witness_MovementTimesOut_valve :
    ∀ x ∈ [(PlantState.defrost, some DefrostPhase.valveIn), (.recovery, some .valveOut), (.idle, none)],
      let s := { queued (planted x.1 x.2 heating 0) [flying .valve 1 .moving 0] with
        port := { ready.port with cache := [⟨3, 0, .outdoor ⟨0, 0, 200, .moving, false, 0, false⟩⟩] } }
      s.phase ≠ .stopping ∧ s.queue.inFlight .valve = some (flying .valve 1 .moving 0)
        ∧ s.outdoorEntry = some ⟨0, 0, 200, .moving, false, 0, false⟩ ∧ s.valveReady ∧ s.seq.awaits heating := fun x hx =>
  have h := test_witness_valveReady x hx
  ⟨nofun, rfl, rfl, h.1, h.2⟩

theorem test_witness_BusTimers :
    (let s := { ready with port := { ready.port with roundTimer := .running 7 } }
     s.port.roundTimer.isRunning = true ∧ s.economy = .active ∧ s.port.round = none
       ∧ (withRound s (some ⟨0, 2, []⟩)).port.round.isSome = true)
    ∧ (let s := { ready with room := ⟨ready.room.slots.set 3 (.ready 5 70 0x30 1 none (.running 7)), []⟩ }
       s.room.slots.get 3 = .ready 5 70 0x30 1 none (.running 7))
    ∧ (let s := { ready with mgmt := ⟨.running 7, .running 8, true, 255⟩ }
       s.mgmt.period.isRunning = true ∧ s.mgmt.holdoff.isRunning = true ∧ s.mgmt.pending = true) := by decide +kernel

/-- Reset, with a command waiting, meets the hypotheses of every invariant statement, and its step answers a next state. -/
theorem test_witness_invariants :
    let s := { State.reset with pending := [.minOffExpiry] }
    s.storeSafe ∧ s.tables.safe ∧ s.callsSafe ∧ s.queue.disciplined ∧ s.seq.recordSafe ∧ s.minOffSafe ∧ s.countsSafe
    ∧ s.cacheSafe ∧ ∃ t, step s = .next t := by
  unfold State.storeSafe State.callsSafe ZoneRec.callsSafe State.countsSafe
  exact ⟨⟨by decide +kernel, nofun, nofun⟩, Tables.default_safe, by decide +kernel, by decide +kernel,
    recordSafe_of (by decide +kernel), minOffSafe_of (by decide +kernel), by decide +kernel, nofun, _, rfl⟩

/-- A start: the compressor leaves 0 at the min off timer's own expiry. -/
theorem test_witness_NoStartWithinMinOff :
    let s := withSeq { planted .startWait none heating 0 with pending := [.minOffExpiry] } fun q =>
      { q with valveDir := some .heat, minOff := .running 7 }
    s.tables.safe ∧ s.seq.recordSafe ∧ s.minOffSafe ∧ s.seq.cmdQ = 0
    ∧ (after .minOffExpiry { s with pending := [] }).seq.cmdQ ≠ 0 := by
  exact ⟨zonedTables_safe, recordSafe_of (by decide +kernel), minOffSafe_of (by decide +kernel), by decide +kernel⟩

end Sys2Proof.Tests
end

