-- ==== Sys2Proof/Proofs/QuietEntry.lean ====
section
/-! PROOFS. The entry into QUIET (R33): the economy state picks the pass period and the poll period (R31), and each is read
when its timer next starts, so that the entry itself leaves both running timers alone. -/

namespace Sys2Proof.Machine

section
variable {s t : State}

/-! The periods of the economy state (R31). -/

theorem State.passPeriod_of_quiet (h : s.economy = .quiet) : s.passPeriod = secs s.tables.plant.quietPassPeriod :=
  congrArg secs (if_neg (h ▸ nofun))

theorem State.pollPeriod_of_quiet (h : s.economy = .quiet) : s.pollPeriod = secs s.tables.plant.quietPollInterval :=
  congrArg secs (if_neg (h ▸ nofun))

/-! The timers that read them. -/

/-- The sequencer's moves leave what a start of the pass timer reads: the clock, the economy state and the tables. -/
theorem Reaches.timer_passPeriod (h : Reaches s t) : t.timer t.passPeriod = s.timer s.passPeriod := by
  simp only [State.timer, State.passPeriod, h.clock, h.economy, h.tables]

/-- A pass ends with its timer started anew, one pass period of the economy state from now (R37, R63). -/
@[simp] theorem State.runPass_passTimer (s : State) : s.runPass.engine.passTimer = s.timer s.passPeriod :=
  (Reaches.refl.takeResult s.passInput.result).timer_passPeriod

@[simp] theorem State.answerChanges_engine (b s : State) : (State.answerChanges b s).engine = s.engine := by
  rw [State.answerChanges_eq]

@[simp] theorem State.startRound_round (s : State) : s.startRound.port.round = some ⟨0, s.indoorAddress, []⟩ := rfl

@[simp] theorem State.startRound_roundTimer (s : State) : s.startRound.port.roundTimer = s.timer s.pollPeriod := rfl

/-- A round that comes due with none in progress begins (R146). -/
theorem State.roundDue_of_round_none (h : s.port.round = none) : s.roundDue = s.startRound := by
  simp [State.roundDue, h]

/-! The three expiries where their timers run. -/

theorem exec_quietEntryTimerExpiry_of_active (hq : s.quietTimer.isRunning = true) (ha : s.economy = .active) :
    exec .quietEntryTimerExpiry s = .next { s with economy := .quiet, quietTimer := .stopped } :=
  congrArg Host.Outcome.next (if_pos ⟨hq, ha⟩)

theorem exec_passTimerExpiry_of_running (h : s.engine.passTimer.isRunning = true) :
    exec .passTimerExpiry s = .next (State.answerChanges s s.runPass) :=
  congrArg Host.Outcome.next (if_pos h)

theorem exec_pollRoundDue_of_running (h : s.port.roundTimer.isRunning = true) :
    exec .pollRoundDue s = .next s.roundDue :=
  congrArg Host.Outcome.next (if_pos h)

/-! What they do in QUIET. -/

/-- A pass in QUIET starts its timer with the quiet pass period. -/
theorem exec_passTimerExpiry_of_quiet (he : s.economy = .quiet) (h : s.engine.passTimer.isRunning = true) :
    ∃ t, exec .passTimerExpiry s = .next t
      ∧ t.engine.passTimer = .running (s.clock + secs s.tables.plant.quietPassPeriod) := by
  refine ⟨_, exec_passTimerExpiry_of_running h, ?_⟩
  rw [State.answerChanges_engine, State.runPass_passTimer, State.passPeriod_of_quiet he, State.timer]

/-- A round that begins in QUIET makes the next one due one quiet poll interval after its own start. -/
theorem exec_pollRoundDue_of_quiet (he : s.economy = .quiet) (h : s.port.roundTimer.isRunning = true)
    (hr : s.port.round = none) :
    ∃ t, exec .pollRoundDue s = .next t ∧ t.port.round = some ⟨0, s.indoorAddress, []⟩
      ∧ t.port.roundTimer = .running (s.clock + secs s.tables.plant.quietPollInterval) := by
  refine ⟨s.startRound, ?_, State.startRound_round s, ?_⟩
  · rw [exec_pollRoundDue_of_running h, State.roundDue_of_round_none hr]
  · rw [State.startRound_roundTimer, State.pollPeriod_of_quiet he, State.timer]

end

/-- Settles O15: the entry writes the economy state and its own timer alone; the pass and the round that come later, at any
`now`, are those of a state in QUIET. -/
theorem quietEntry : Obligations.QuietEntry := by
  intro s hquiet hactive q
  refine ⟨exec_quietEntryTimerExpiry_of_active hquiet hactive, fun hpass now => ?_, fun hround hnone now => ?_⟩
  · exact exec_passTimerExpiry_of_quiet (s := { q with clock := now }) rfl hpass
  · exact exec_pollRoundDue_of_quiet (s := { q with clock := now }) rfl hround hnone

end Sys2Proof.Machine
end
